-- ==== Sys2Proof/Word.lean ====
section
/-! DEFINITION. The byte of the serial line and of the die descriptor. -/

namespace Sys2Proof

/-- One byte of a link frame (R163, R164) or of the die descriptor (R102). -/
abbrev Byte := BitVec 8

/-- The 16-bit check code of R165. -/
abbrev Crc := BitVec 16

end Sys2Proof
end

