-- ==== Sys2Proof/Syntax.lean ====
section
/-! DEFINITION. The commands of the PX4: one constructor per row of spec/opcode_table.json. -/

namespace Sys2Proof

/-- The two front-lay sensors (R50). -/
inductive Lay where
  | a
  | b
deriving DecidableEq, Repr

/-- The levels of the RATE1 and RATE0 straps, high is true (R163). -/
structure Straps where
  rate1 : Bool
  rate0 : Bool
deriving DecidableEq, Repr

/-- The contents of a width gauge report (R52). -/
inductive GaugeReport where
  | valid (l r : Nat)
  | noEdge
deriving DecidableEq, Repr

/-- The contents of a mark reader report (R56). -/
inductive MarkReport where
  | read (leaf tag : Nat)
  | noRead
deriving DecidableEq, Repr

/-- A command. A host request carries the tag and the body of its frame (R164); its kind is that of R172.
`checkOk` of a report says whether its check byte matches its contents (R52, R56). -/
inductive Instr where
  | identify (tag : Byte) (body : List Byte)
  | readStatus (tag : Byte) (body : List Byte)
  | run (tag : Byte) (body : List Byte)
  | drain (tag : Byte) (body : List Byte)
  | stop (tag : Byte) (body : List Byte)
  | restart (tag : Byte) (body : List Byte)
  | setFormat (tag : Byte) (body : List Byte)
  | readFormat (tag : Byte) (body : List Byte)
  | queueBook (tag : Byte) (body : List Byte)
  | cancelBook (tag : Byte) (body : List Byte)
  | readBook (tag : Byte) (body : List Byte)
  | readTrack (tag : Byte) (body : List Byte)
  | setProfile (tag : Byte) (body : List Byte)
  | readProfile (tag : Byte) (body : List Byte)
  | withdrawPin (tag : Byte) (body : List Byte)
  | restorePin (tag : Byte) (body : List Byte)
  | readPins (tag : Byte) (body : List Byte)
  | presetPinCounts (tag : Byte) (body : List Byte)
  | readDie (tag : Byte) (body : List Byte)
  | drillSuspend (tag : Byte) (body : List Byte)
  | drillResume (tag : Byte) (body : List Byte)
  | setDrillBit (tag : Byte) (body : List Byte)
  | setWireSupply (tag : Byte) (body : List Byte)
  | setWatch (tag : Byte) (body : List Byte)
  | readEvents (tag : Byte) (body : List Byte)
  | readLinkErrors (tag : Byte) (body : List Byte)
  | unknownKind (kind tag : Byte) (body : List Byte)
  /-- `contact`: the level of DIE_PRESENT, closed is true; `low`: RESET_N is held low through power-on (R161). -/
  | powerOn (straps : Straps) (contact low : Bool)
  /-- RESET_N falls. -/
  | resetN
  | rxByte (b : Byte)
  | framingError
  | silenceTimerExpiry
  /-- `straps`: read only where the reply sent is that of RESTART (R161, R163). -/
  | replySent (straps : Straps)
  /-- `ready`: the level of CARRIAGE_READY when the pulse is taken (R91). -/
  | encPulse (ready : Bool)
  | leadEdge
  | frontLayEdge (sensor : Lay)
  | gaugeReport (checkOk : Bool) (report : GaugeReport)
  | markReport (checkOk : Bool) (report : MarkReport)
  /-- `um`: the result, converted to micrometres (R54). -/
  | caliperConversionComplete (um : Nat)
  | advanceDone
  | holeDone
  | drillStepLimitExpiry
  | resumeTimerMark
  | cutDone
  | feedTimerExpiry
  | closeDone
  | closeLimitExpiry
  | diePresentCloses
  | diePresentOpens
  /-- `fetched`: the bytes of the descriptor memory, from offset 0, that the transfers were able to fetch; fewer than
  the read needs where the memory did not acknowledge or a transfer broke off (R102, R103). -/
  | descriptorReadComplete (fetched : List Byte)
  | watchTimerExpiry
  | resetNRelease (straps : Straps)
deriving DecidableEq, Repr

/-- The known request kinds of R172. -/
inductive RequestKind where
  | identify | readStatus | run | drain | stop | restart
  | setFormat | readFormat | queueBook | cancelBook | readBook | readTrack
  | setProfile | readProfile
  | withdrawPin | restorePin | readPins | presetPinCounts | readDie
  | drillSuspend | drillResume | setDrillBit | setWireSupply | setWatch
  | readEvents | readLinkErrors
deriving DecidableEq, Repr

end Sys2Proof
end

