-- ==== Sys2Proof/Machine/Kinds.lean ====
section
/-! DEFINITION. The request kinds of R172. -/

namespace Sys2Proof.Machine

/-- The kind byte of a known request (R172). -/
def kindByte : RequestKind → Byte
  | .identify => 0x01
  | .readStatus => 0x02
  | .run => 0x03
  | .drain => 0x04
  | .stop => 0x05
  | .restart => 0x06
  | .setFormat => 0x08
  | .readFormat => 0x09
  | .queueBook => 0x0A
  | .cancelBook => 0x0B
  | .readBook => 0x0C
  | .readTrack => 0x0D
  | .setProfile => 0x10
  | .readProfile => 0x11
  | .withdrawPin => 0x14
  | .restorePin => 0x15
  | .readPins => 0x16
  | .presetPinCounts => 0x17
  | .readDie => 0x18
  | .drillSuspend => 0x1A
  | .drillResume => 0x1B
  | .setDrillBit => 0x1C
  | .setWireSupply => 0x1D
  | .setWatch => 0x1E
  | .readEvents => 0x20
  | .readLinkErrors => 0x21

/-- Every known request, in the order of R172. -/
def requestKinds : List RequestKind :=
  [.identify, .readStatus, .run, .drain, .stop, .restart, .setFormat, .readFormat, .queueBook, .cancelBook,
   .readBook, .readTrack, .setProfile, .readProfile, .withdrawPin, .restorePin, .readPins, .presetPinCounts,
   .readDie, .drillSuspend, .drillResume, .setDrillBit, .setWireSupply, .setWatch, .readEvents, .readLinkErrors]

/-- The known request a kind byte names, none for every other kind (R172). -/
def kindOf (k : Byte) : Option RequestKind :=
  requestKinds.find? fun r => kindByte r == k

end Sys2Proof.Machine
end

