-- ==== Sys2Proof/WellFormed.lean ====
section
/-! DEFINITION. Which terms of `Instr` stand for something the outside can send. -/

namespace Sys2Proof

/-- The body of a frame: its length field is at most 512 and counts the kind and the tag as well (R164). -/
def bodyFits (body : List Byte) : Bool := body.length ≤ 510

/-- A command is well formed when each operand lies in the range the manual gives its source. -/
def Instr.wellFormed : Instr → Bool
  | .identify _ body | .readStatus _ body | .run _ body | .drain _ body | .stop _ body | .restart _ body
  | .setFormat _ body | .readFormat _ body | .queueBook _ body | .cancelBook _ body | .readBook _ body
  | .readTrack _ body | .setProfile _ body | .readProfile _ body | .withdrawPin _ body | .restorePin _ body
  | .readPins _ body | .presetPinCounts _ body | .readDie _ body | .drillSuspend _ body | .drillResume _ body
  | .setDrillBit _ body | .setWireSupply _ body | .setWatch _ body | .readEvents _ body
  | .readLinkErrors _ body => bodyFits body
  -- R172: a kind that is none of the table's
  | .unknownKind kind _ body => bodyFits body && (Machine.kindOf kind).isNone
  -- R52, R176: a lateral position is a 16-bit field
  | .gaugeReport _ (.valid l r) => decide (l ≤ 65535) && decide (r ≤ 65535)
  -- R56: a leaf number and a tag, each 0 to 255
  | .markReport _ (.read leaf tag) => decide (leaf ≤ 255) && decide (tag ≤ 255)
  -- R54: 0 to 4 095 micrometres
  | .caliperConversionComplete um => decide (um ≤ 4095)
  -- R103: the memory has 2 048 bytes
  | .descriptorReadComplete fetched => decide (fetched.length ≤ 2048)
  | .gaugeReport _ .noEdge | .markReport _ .noRead
  | .powerOn _ _ _ | .resetN | .rxByte _ | .framingError | .silenceTimerExpiry | .replySent _ | .encPulse _
  | .leadEdge | .frontLayEdge _ | .advanceDone | .holeDone | .drillStepLimitExpiry | .resumeTimerMark | .cutDone
  | .feedTimerExpiry | .closeDone | .closeLimitExpiry | .diePresentCloses | .diePresentOpens | .watchTimerExpiry
  | .resetNRelease _ => true

end Sys2Proof
end

