-- ==== Sys2Proof/Decode.lean ====
section
/-! DEFINITION. Commands spelled by bits: no row of spec/opcode_table.json gives bits. -/

namespace Sys2Proof

/-- The command a word of `nbits` bits spells. The table gives no row any bits (every row's "fields" is empty), so no
word spells one. A request's bytes are its frame's (R164, `Machine.Frame.bytes`), which RX_BYTE takes one at a time. -/
def decodeTableWord (_nbits _w : Nat) : Option Instr := none

end Sys2Proof
end

