-- ==== Sys2Proof/Machine/Bytes.lean ====
section
/-! DEFINITION. Byte order, field reading and the check code. -/

namespace Sys2Proof.Machine

/-- The low byte of a number. -/
def byte (n : Nat) : Byte := BitVec.ofNat 8 n

/-- A 16-bit field, low byte first (00_scope.md, "Multi-byte fields"). -/
def le16 (n : Nat) : List Byte := [byte n, byte (n / 256)]

/-- A 32-bit field, low byte first. -/
def le32 (n : Nat) : List Byte := [byte n, byte (n / 256), byte (n / 65536), byte (n / 16777216)]

/-- A flag is 0 for clear and 1 for set (R176). -/
def flagByte (b : Bool) : Byte := if b then 1 else 0

/-- The byte at offset `o` of a body or table, as a number. -/
def u8 (b : List Byte) (o : Nat) : Nat := (b.getD o 0).toNat

/-- The 16-bit field at offset `o`. -/
def u16 (b : List Byte) (o : Nat) : Nat := u8 b o + 256 * u8 b (o + 1)

/-- The 24-bit field at offset `o` (R104, the pointer of a table header). -/
def u24 (b : List Byte) (o : Nat) : Nat := u16 b o + 65536 * u8 b (o + 2)

/-- The 32-bit field at offset `o`. -/
def u32 (b : List Byte) (o : Nat) : Nat := u16 b o + 65536 * u16 b (o + 2)

/-- One shift of R165, step 3. -/
def crcShift (c : Crc) : Crc := if c.getLsbD 0 then (c >>> 1) ^^^ 0xA001#16 else c >>> 1

/-- One covered byte of R165, steps 2 and 3. -/
def crcByte (c : Crc) (b : Byte) : Crc :=
  let x := c ^^^ b.setWidth 16
  crcShift (crcShift (crcShift (crcShift (crcShift (crcShift (crcShift (crcShift x)))))))

/-- The check code of R165 over the covered bytes. -/
def crc (covered : List Byte) : Crc := covered.foldl crcByte 0xFFFF#16

end Sys2Proof.Machine
end

