-- ==== Sys2Proof/Config.lean ====
section
/-! DEFINITION. The one choice the manual leaves open, as a constant without a body. -/

namespace Sys2Proof

/-- FREE VALUE (log 12). Whether, at the `n`th CLOSE at which it matters, the notch fire at NOTCH is taken before
the spoil that a failure of the sheet at PUNCH causes at that same CLOSE. R94 and R95 allow either order. -/
opaque Config.notchFirst : Nat → Bool

end Sys2Proof
end

