-- ==== Sys2Proof/Machine/State.lean ====
section
/-! DEFINITION. The state of the PX4: plain data, one field per piece of state the spec gives each block. -/

namespace Sys2Proof.Machine

/-! ### Names shared by several blocks -/

/-- The reasons of R176, one byte each. -/
inductive Reason where
  | width | noGauge | skew | doubleFeed | thin | markMissing | markMismatch | pitch | margin
  | outOfReach | pinUnavailable | noNotch | notchReach | carriageLate | spoiledBook | cancelled
  | purged | drillAbort | jam | straySheet | dieRemoved | drillFault | closeFault | feedFault
deriving DecidableEq, Repr

/-- The line states (R149). -/
inductive Mode where
  | noDie | ready | running | draining | halted
deriving DecidableEq, Repr

/-- The halt causes (R149, R154); no cause is `none` of an Option. -/
inductive HaltCause where
  | jam | straySheet | dieRemoved | drillFault | closeFault | feedFault
deriving DecidableEq, Repr

/-- The start causes (R149, R161). -/
inductive StartCause where
  | powerOn | resetPin | restartRequest
deriving DecidableEq, Repr

/-! ### Event Queue -/

/-- The kinds of event entry (11_record_layouts.md). -/
inductive EventKind where
  | lineState | dieMounted | dieRefused | dieRemoved | sheetRejected | bookSpoiled | bookBound | pinWorn
  | bitDue | wireLow | wireOut | hooksOut | drillSuspended | drillResumed | halt | watchExpired | eventsLost
deriving DecidableEq, Repr

/-- One entry of the Event Queue (R158); reason 0 is `none`. -/
structure Event where
  kind : EventKind
  reason : Option Reason
  book : Nat
  seq : Nat
  value : Nat
deriving DecidableEq, Repr

/-- The Event Queue, oldest first, and the ATTN output, asserted is true (R149, R158). -/
structure Notices where
  queue : List Event
  attn : Bool
deriving DecidableEq, Repr

/-! ### Link Port -/

/-- The status of a reply (R172). -/
inductive Status where
  | ok | unknownKind | badLength | badValue | wrongState | full | inUse | notFound | mismatch | tooSoon
deriving DecidableEq, Repr

/-- A request frame as the answering side takes it (R164). -/
structure Frame where
  kind : Byte
  tag : Byte
  body : List Byte
deriving DecidableEq, Repr

/-- A reply as it is formed at dispatch (R173). -/
structure Reply where
  kind : Byte
  tag : Byte
  status : Status
  eventCount : Nat
  mode : Mode
  body : List Byte
deriving DecidableEq, Repr

/-- The receiver (R162). IN_FRAME holds the bytes received after the start byte. -/
inductive Receiver where
  | hunt
  | inFrame (bytes : List Byte)
  | discard
deriving DecidableEq, Repr

/-- A timer of the link: stopped, or running with the milliseconds it has counted (log 4). -/
inductive Silence where
  | stopped
  | running (ms : Nat)
deriving DecidableEq, Repr

/-- The answering side (R162): SENDING holds the reply in transmission and its bytes still to send (log 16). -/
inductive Answering where
  | idle
  | sending (reply : Reply) (left : Nat)
deriving DecidableEq, Repr

/-- The link errors (R170); the first-error code NONE is `none`. -/
inductive LinkError where
  | noise | framing | badLength | truncated | crc | overrun
deriving DecidableEq, Repr

/-- The link rates (R163). -/
inductive Rate where
  | baud57600 | baud115200 | baud230400 | baud460800
deriving DecidableEq, Repr

/-- The Link Port (R162). -/
structure Link where
  receiver : Receiver
  noiseOpen : Bool
  silence : Silence
  answering : Answering
  slot : Option Frame
  errors : Nat
  firstError : Option LinkError
  rate : Rate
deriving DecidableEq, Repr

/-! ### Line Control -/

inductive WatchMode where
  | atOnce | atBoundary
deriving DecidableEq, Repr

/-- The line-silence watch timer, with the time left in ms (R149). -/
inductive WatchTimer where
  | stopped
  | running (left : Nat)
deriving DecidableEq, Repr

/-- Line Control (R149), less the Event Queue. `boundary` is true while a boundary drain is PENDING. -/
structure Line where
  mode : Mode
  haltCause : Option HaltCause
  startCause : StartCause
  watchPeriod : Nat
  watchMode : WatchMode
  watchTimer : WatchTimer
  boundary : Bool
deriving DecidableEq, Repr

/-! ### Format Table -/

/-- A fixed gap: a first slot and a count (R22). -/
structure Gap where
  first : Nat
  count : Nat
deriving DecidableEq, Repr

/-- The slot mode with the fields held in it only (R23). -/
inductive SlotMode where
  | auto
  | fixed (t : Nat) (gaps : List Gap)
deriving DecidableEq, Repr

inductive MarkPolicy where
  | required | ifRead | ignored
deriving DecidableEq, Repr

/-- One format record (R22). -/
structure Format where
  wn : Nat
  wt : Nat
  p : Nat
  mode : SlotMode
  m : Nat
  g : Nat
  skewLimit : Nat
  markPolicy : MarkPolicy
  stepLimit : Nat
  closeLimit : Nat
deriving DecidableEq, Repr

/-! ### Book Queue -/

inductive Role where
  | cover | leaf | back
deriving DecidableEq, Repr

inductive Hanger where
  | none | hook | drilled
deriving DecidableEq, Repr

/-- One entry of a book's leaf list (R2). -/
structure Leaf where
  role : Role
  caliper : Nat
  notch : Bool
deriving DecidableEq, Repr

inductive BookState where
  | queued | feeding | fed | stacked | closing | spoiled
deriving DecidableEq, Repr

/-- One book record (R1). The leaf count n is the length of `leaves`. -/
structure Book where
  id : Nat
  slot : Nat
  hanger : Hanger
  leaves : List Leaf
  state : BookState
  arrived : Nat
  stacked : Nat
  rejected : Nat
  dumped : Nat
  tBook : Option Nat
  reason : Option Reason
deriving DecidableEq, Repr

/-! ### Die Interface -/

inductive PinState where
  | active | withdrawn | retired | absent
deriving DecidableEq, Repr

/-- One entry of the pin map (R111). -/
structure Pin where
  state : PinState
  worn : Bool
  count : Nat
deriving DecidableEq, Repr

/-- The die record's notch tool (R106). -/
structure NotchTool where
  reachMin : Nat
  reachMax : Nat
  maxCaliper : Nat
deriving DecidableEq, Repr

/-- The die record (R105 to R108); `retired` in increasing order. -/
structure DieRecord where
  minor : Nat
  n : Nat
  p : Nat
  d0 : Nat
  maxLift : Nat
  pinLife : Nat
  notch : Option NotchTool
  retired : List Nat
deriving DecidableEq, Repr

/-- The checks of the descriptor read (R103), in their order. -/
inductive DieCheck where
  | noResponse | signature | revision | headerCount | length | crc | tableForm | noPinTable | pinValue
  | notchValue | retiredValue
deriving DecidableEq, Repr

/-- The interface state (R100). The die record and the pin map are held in MOUNTED and in no other state; a read is in
flight in MOUNTING and in no other state (R101, R102). -/
inductive DieIface where
  | empty
  | mounting
  | mounted (die : DieRecord) (pins : List Pin)
  | refused
deriving DecidableEq, Repr

/-- The Die Interface (R100). `contact` is the level of DIE_PRESENT, closed is true (log 8). -/
structure Die where
  iface : DieIface
  lastRefusal : Option DieCheck
  contact : Bool
deriving DecidableEq, Repr

/-! ### Arrival Latch -/

/-- The skew window (R44, R50). -/
inductive SkewWindow where
  | closed
  | waiting
  | counting (count : Nat) (opener : Lay)
deriving DecidableEq, Repr

/-- The Arrival Latch (R44). `conversion` holds the seq of the sheet the caliper conversion was started for. -/
structure Arrival where
  nextSeq : Nat
  window : SkewWindow
  conversion : Option Nat
deriving DecidableEq, Repr

/-! ### Sheet Track -/

inductive Route where
  | punch | drill | reject
deriving DecidableEq, Repr

/-- The measured ends of the binding edge; both are present or both absent (R52). -/
structure Edges where
  l : Nat
  r : Nat
deriving DecidableEq, Repr

structure Mark where
  leaf : Nat
  tag : Nat
deriving DecidableEq, Repr

inductive PlanState where
  | ready | discarded | applied
deriving DecidableEq, Repr

/-- A punched plan (R41). The notch flag is set when `notch` holds a centre. -/
structure PunchPlan where
  t : Nat
  slots : List Nat
  k0 : Nat
  shift : Int
  pins : List Nat
  notch : Option Nat
deriving DecidableEq, Repr

/-- A board's plan (R42). -/
structure BoardPlan where
  t : Nat
  slots : List Nat
  holes : List Nat
deriving DecidableEq, Repr

inductive PlanBody where
  | punched (p : PunchPlan)
  | board (b : BoardPlan)
deriving DecidableEq, Repr

structure Plan where
  state : PlanState
  body : PlanBody
deriving DecidableEq, Repr

/-- One sheet record (R46). Its location is where it stands in the track (R61). -/
structure Sheet where
  seq : Nat
  book : Nat
  leaf : Nat
  role : Role
  route : Route
  reason : Option Reason
  edges : Option Edges
  skew : Nat
  caliper : Option Nat
  mark : Option Mark
  plan : Option Plan
  notchDone : Bool
  holesDrilled : Nat
deriving DecidableEq, Repr

/-- A LANE entry; an entry marked away is the board at the DRILL station (R61, R70). -/
structure LaneEntry where
  sheet : Sheet
  away : Bool
deriving DecidableEq, Repr

inductive Diverter where
  | bin | lane | drill
deriving DecidableEq, Repr

/-- A standing feed permit with its recorded leaf (R12). -/
structure Permit where
  book : Nat
  leaf : Nat
deriving DecidableEq, Repr

/-- The Sheet Track (R61). -/
structure Track where
  reg : Option Sheet
  punch : Option Sheet
  notch : Option Sheet
  lane : List LaneEntry
  permit : Option Permit
  feedPermit : Bool
  diverter : Diverter
deriving DecidableEq, Repr

/-! ### Cycle Unit -/

structure Profile where
  lc : Nat
  pc : Nat
  po : Nat
  pa : Nat
deriving DecidableEq, Repr

inductive Hold where
  | released | heldClear | heldInPlace
deriving DecidableEq, Repr

/-- The Cycle Unit (R81). -/
structure Cycle where
  active : Profile
  staged : Option Profile
  count : Nat
  hold : Hold
  outstanding : Bool
  stroke : List Nat
  totalStrokes : Nat
  chain : List Nat
deriving DecidableEq, Repr

/-! ### Drill Controller -/

inductive Origin where
  | request | halt
deriving DecidableEq, Repr

/-- The controller state; the suspension origin is held in two of them only (R117). -/
inductive DrillMode where
  | idle
  | drilling
  | suspendPending (o : Origin)
  | suspended (o : Origin)
  | aborting
deriving DecidableEq, Repr

/-- What the controller holds of its board (R117, R119). -/
structure Board where
  seq : Nat
  book : Nat
  holes : List Nat
  stepLimit : Nat
deriving DecidableEq, Repr

/-- The hole in progress, with the milliseconds since its DRILL_GO (R117, log 4). -/
inductive Hole where
  | none
  | running (ms : Nat)
  | timedOut
deriving DecidableEq, Repr

/-- The Drill Controller (R117). `resume` is the resume timer in ms. -/
structure Drill where
  mode : DrillMode
  board : Option Board
  index : Nat
  hole : Hole
  resume : Option Nat
  bitCount : Nat
  bitLife : Nat
deriving DecidableEq, Repr

/-! ### Stacker, Wire Feed, Closer -/

/-- The tray with its tray book (R134). -/
inductive Tray where
  | empty
  | building (book : Nat)
  | complete (book : Nat)
deriving DecidableEq, Repr

/-- A limit timer: running with the milliseconds counted, or run out (R138, R144, log 4). -/
inductive Limit where
  | running (ms : Nat)
  | timedOut
deriving DecidableEq, Repr

/-- The feeder state with the served book, the loops of the cut and the feed timer where they are held (R138). -/
inductive Feeder where
  | idle
  | feeding (book loops : Nat) (timer : Limit)
  | cutReady (book loops : Nat)
  | waitingWire (book : Nat)
deriving DecidableEq, Repr

/-- The Wire Feed (R138). -/
structure Wire where
  feeder : Feeder
  spool : Nat
  lowMark : Nat
  hooks : Nat
deriving DecidableEq, Repr

/-- The closer state with the book, the close limit and the close timer (R144). -/
inductive CloserMode where
  | idle
  | closing (book limit : Nat) (timer : Limit)
deriving DecidableEq, Repr

/-- The Closer (R144); `hookWait` is true while a hook wait stands. -/
structure Closer where
  mode : CloserMode
  hookWait : Bool
deriving DecidableEq, Repr

/-! ### Outputs -/

/-- The setpoints last sent to the carriage and to the notch positioner (R38, R95, log 11). -/
structure Setpoints where
  carriage : Option Int
  notch : Option Nat
deriving DecidableEq, Repr

/-- A pulse given or a link message sent to the line (log 10). -/
inductive Output where
  /-- PIN_DATA, PIN_CLK and PIN_LOAD: the chain is loaded with a set of pins and latched (R93). -/
  | pinLoad (pins : List Nat)
  | punchFire
  | notchFire
  | advanceOut
  | carriage (shift : Int)
  | notchCentre (hu : Nat)
  | drillPosition (hu : Nat)
  | drillGo
  /-- FLAP, with or without a sheet in delivery (R134). -/
  | flap (inDelivery : Bool)
  | wireCut (loops : Nat) (hook : Bool)
  | closeGo
  /-- A descriptor read is started at this I2C address (R102). -/
  | descriptorRead (address : Nat)
deriving DecidableEq, Repr

/-! ### The machine -/

/-- The whole state. `pending`, `out` and `draws` are the model's own (log 3, log 10, log 12): the waiting commands,
what the last command drove, and how many free choices have been drawn. `resetLow`: RESET_N is low (R161). -/
structure State where
  pending : List Instr
  out : List Output
  draws : Nat
  resetLow : Bool
  link : Link
  line : Line
  notices : Notices
  formats : List (Option Format)
  books : List Book
  die : Die
  arrival : Arrival
  track : Track
  cycle : Cycle
  drill : Drill
  tray : Tray
  wire : Wire
  closer : Closer
  setpoints : Setpoints
deriving DecidableEq, Repr

/-- The reasons a command stops with a fault: there are none. The spec gives every command an effect in every state;
the part's own faults are halts of the line (R154), which are next states. -/
inductive Fault where
deriving DecidableEq, Repr

/-- The reasons a command has no meaning in the model. -/
inductive Refusal where
  /-- Raised by an arm of `exec` for a row without a meaning yet; no row is left so. Safe: the model only stops. -/
  | notModelled (mnemonic : String)
deriving DecidableEq, Repr

/-- The machine right after a power-on with RESET_N high, both RATE straps low and no die in the press: the values of
R44, R61, R81, R100, R117, R134, R138, R144, R149 and R162, formats empty and no book held (R22, R3). DESIGN CHOICE
(log 6): the levels of the straps and of the contact are the outside's. -/
def State.reset : State where
  pending := []
  out := []
  draws := 0
  resetLow := false
  link :=
    { receiver := .hunt, noiseOpen := false, silence := .stopped, answering := .idle, slot := none, errors := 0,
      firstError := none, rate := .baud57600 }
  line :=
    { mode := .noDie, haltCause := none, startCause := .powerOn, watchPeriod := 0, watchMode := .atOnce,
      watchTimer := .stopped, boundary := false }
  notices := { queue := [], attn := false }
  formats := [none, none, none, none, none, none, none, none]
  books := []
  die := { iface := .empty, lastRefusal := none, contact := false }
  arrival := { nextSeq := 0, window := .closed, conversion := none }
  track :=
    { reg := none, punch := none, notch := none, lane := [], permit := none, feedPermit := false, diverter := .bin }
  cycle :=
    { active := { lc := 2000, pc := 600, po := 1000, pa := 1400 }, staged := none, count := 0, hold := .heldClear,
      outstanding := false, stroke := [], totalStrokes := 0, chain := [] }
  drill :=
    { mode := .idle, board := none, index := 0, hole := .none, resume := none, bitCount := 0, bitLife := 0 }
  tray := .empty
  wire := { feeder := .idle, spool := 0, lowMark := 0, hooks := 0 }
  closer := { mode := .idle, hookWait := false }
  setpoints := { carriage := none, notch := none }

end Sys2Proof.Machine
end

