-- ==== Sys2Proof/Machine/Codes.lean ====
section
/-! DEFINITION. The codes of named values (R176). -/

namespace Sys2Proof.Machine

def Status.code : Status → Byte
  | .ok => 0x00
  | .unknownKind => 0x01
  | .badLength => 0x02
  | .badValue => 0x03
  | .wrongState => 0x04
  | .full => 0x05
  | .inUse => 0x06
  | .notFound => 0x07
  | .mismatch => 0x08
  | .tooSoon => 0x09

/-- The code of a line state, also the value of a HALT event and each half of a LINE_STATE value. -/
def Mode.code : Mode → Nat
  | .noDie => 0
  | .ready => 1
  | .running => 2
  | .draining => 3
  | .halted => 4

def Role.code : Role → Byte
  | .cover => 1
  | .leaf => 2
  | .back => 3

/-- A role code of a request; every other code is refused by the owner's value check (R176). -/
def Role.ofCode (n : Nat) : Option Role :=
  if n = 1 then some .cover else if n = 2 then some .leaf else if n = 3 then some .back else none

def Hanger.code : Hanger → Byte
  | .none => 0
  | .hook => 1
  | .drilled => 2

def Hanger.ofCode (n : Nat) : Option Hanger :=
  if n = 0 then some .none else if n = 1 then some .hook else if n = 2 then some .drilled else Option.none

/-- A flag of a request: 0 clear, 1 set, any other value refused (R176). -/
def flagOfCode (n : Nat) : Option Bool :=
  if n = 0 then some false else if n = 1 then some true else none

def BookState.code : BookState → Byte
  | .queued => 1
  | .feeding => 2
  | .fed => 3
  | .stacked => 4
  | .closing => 5
  | .spoiled => 6

def Route.code : Route → Byte
  | .punch => 1
  | .drill => 2
  | .reject => 3

def PlanState.code : PlanState → Byte
  | .ready => 1
  | .discarded => 2
  | .applied => 3

/-- The slot mode and its T_fixed, fixed-gap count and three gap places; a field not held is 0 (R177). -/
def SlotMode.code : SlotMode → Byte
  | .auto => 0
  | .fixed _ _ => 1

def MarkPolicy.code : MarkPolicy → Byte
  | .required => 0
  | .ifRead => 1
  | .ignored => 2

def MarkPolicy.ofCode (n : Nat) : Option MarkPolicy :=
  if n = 0 then some .required else if n = 1 then some .ifRead else if n = 2 then some .ignored else none

def Diverter.code : Diverter → Byte
  | .bin => 0
  | .lane => 1
  | .drill => 2

def PinState.code : PinState → Nat
  | .active => 0
  | .withdrawn => 1
  | .retired => 2
  | .absent => 3

def Hold.code : Hold → Byte
  | .released => 0
  | .heldClear => 1
  | .heldInPlace => 2

def DrillMode.code : DrillMode → Byte
  | .idle => 0
  | .drilling => 1
  | .suspendPending _ => 2
  | .suspended _ => 3
  | .aborting => 4

def Feeder.code : Feeder → Byte
  | .idle => 0
  | .feeding _ _ _ => 1
  | .cutReady _ _ => 2
  | .waitingWire _ => 3

def DieIface.code : DieIface → Byte
  | .empty => 0
  | .mounting => 1
  | .mounted _ _ => 2
  | .refused => 3

def WatchMode.code : WatchMode → Byte
  | .atOnce => 0
  | .atBoundary => 1

def WatchMode.ofCode (n : Nat) : Option WatchMode :=
  if n = 0 then some .atOnce else if n = 1 then some .atBoundary else none

def WatchTimer.code : WatchTimer → Byte
  | .stopped => 0
  | .running _ => 1

def StartCause.code : StartCause → Byte
  | .powerOn => 1
  | .resetPin => 2
  | .restartRequest => 3

def LinkError.code : LinkError → Byte
  | .noise => 1
  | .framing => 2
  | .badLength => 3
  | .truncated => 4
  | .crc => 5
  | .overrun => 6

/-- The first-error code, NONE is 0. -/
def firstErrorCode : Option LinkError → Byte
  | none => 0
  | some e => e.code

def Reason.code : Reason → Byte
  | .width => 0x01
  | .noGauge => 0x02
  | .skew => 0x03
  | .doubleFeed => 0x04
  | .thin => 0x05
  | .markMissing => 0x06
  | .markMismatch => 0x07
  | .pitch => 0x08
  | .margin => 0x09
  | .outOfReach => 0x0A
  | .pinUnavailable => 0x0B
  | .noNotch => 0x0C
  | .notchReach => 0x0D
  | .carriageLate => 0x0E
  | .spoiledBook => 0x10
  | .cancelled => 0x11
  | .purged => 0x12
  | .drillAbort => 0x13
  | .jam => 0x20
  | .straySheet => 0x21
  | .dieRemoved => 0x22
  | .drillFault => 0x23
  | .closeFault => 0x24
  | .feedFault => 0x25

/-- A reason field: 0x00 where there is none. -/
def reasonCode : Option Reason → Byte
  | none => 0
  | some r => r.code

/-- The reason a halt cause is reported by (R154). -/
def HaltCause.reason : HaltCause → Reason
  | .jam => .jam
  | .straySheet => .straySheet
  | .dieRemoved => .dieRemoved
  | .drillFault => .drillFault
  | .closeFault => .closeFault
  | .feedFault => .feedFault

def EventKind.code : EventKind → Byte
  | .lineState => 0x01
  | .dieMounted => 0x02
  | .dieRefused => 0x03
  | .dieRemoved => 0x04
  | .sheetRejected => 0x05
  | .bookSpoiled => 0x06
  | .bookBound => 0x07
  | .pinWorn => 0x08
  | .bitDue => 0x09
  | .wireLow => 0x0A
  | .wireOut => 0x0B
  | .hooksOut => 0x0C
  | .drillSuspended => 0x0D
  | .drillResumed => 0x0E
  | .halt => 0x0F
  | .watchExpired => 0x10
  | .eventsLost => 0x11

/-- The number of a check of R103. -/
def DieCheck.number : DieCheck → Nat
  | .noResponse => 1
  | .signature => 2
  | .revision => 3
  | .headerCount => 4
  | .length => 5
  | .crc => 6
  | .tableForm => 7
  | .noPinTable => 8
  | .pinValue => 9
  | .notchValue => 10
  | .retiredValue => 11

end Sys2Proof.Machine
end

