-- ==== Sys2Proof/Machine/Update.lean ====
section
/-! DEFINITION. One named update per field of State: every operation changes the state through these. -/

namespace Sys2Proof.Machine

/-- The queue of waiting commands, the model's own (log 3). -/
def State.setPending (s : State) (v : List Instr) : State := { s with pending := v }

/-- What the command has driven so far, the model's own (log 10). -/
def State.setOut (s : State) (v : List Output) : State := { s with out := v }

/-- How many free choices have been drawn (log 12). -/
def State.setDraws (s : State) (v : Nat) : State := { s with draws := v }

/-- The Link Port (R162). -/
def State.setLink (s : State) (v : Link) : State := { s with link := v }

/-- Line Control (R149). -/
def State.setLine (s : State) (v : Line) : State := { s with line := v }

/-- The Event Queue and ATTN (R158). -/
def State.setNotices (s : State) (v : Notices) : State := { s with notices := v }

/-- The Format Table (R22). -/
def State.setFormats (s : State) (v : List (Option Format)) : State := { s with formats := v }

/-- The Book Queue (R3). -/
def State.setBooks (s : State) (v : List Book) : State := { s with books := v }

/-- The Die Interface (R100). -/
def State.setDie (s : State) (v : Die) : State := { s with die := v }

/-- The Arrival Latch (R44). -/
def State.setArrival (s : State) (v : Arrival) : State := { s with arrival := v }

/-- The Sheet Track (R61). -/
def State.setTrack (s : State) (v : Track) : State := { s with track := v }

/-- The Cycle Unit (R81). -/
def State.setCycle (s : State) (v : Cycle) : State := { s with cycle := v }

/-- The Drill Controller (R117). -/
def State.setDrill (s : State) (v : Drill) : State := { s with drill := v }

/-- The Stacker (R134). -/
def State.setTray (s : State) (v : Tray) : State := { s with tray := v }

/-- The Wire Feed (R138). -/
def State.setWire (s : State) (v : Wire) : State := { s with wire := v }

/-- The Closer (R144). -/
def State.setCloser (s : State) (v : Closer) : State := { s with closer := v }

/-- The last setpoints sent (R38, R95). -/
def State.setSetpoints (s : State) (v : Setpoints) : State := { s with setpoints := v }

/-- One more pulse or message of the command being taken (log 10). -/
def State.emit (s : State) (o : Output) : State := { s with out := s.out ++ [o] }

end Sys2Proof.Machine
end

