-- ==== Sys2Proof/Machine/Notices.lean ====
section
/-! DEFINITION. The Event Queue: how an event is entered (R158), and the events the rules name. -/

namespace Sys2Proof.Machine

/-- The EVENTS_LOST entry that takes the 32nd place (R158). -/
def eventsLost : Event := { kind := .eventsLost, reason := none, book := 0, seq := 0, value := 1 }

/-- One more event dropped into the newest entry, saturating (R158). -/
def bumpNewest : List Event → List Event
  | [] => []
  | [e] => [{ e with value := if e.value < 65535 then e.value + 1 else 65535 }]
  | e :: l => e :: bumpNewest l

/-- The queue after an event is entered (R158). -/
def enter (q : List Event) (e : Event) : List Event :=
  if q.length ≤ 30 then q ++ [e] else if q.length = 31 then q ++ [eventsLost] else bumpNewest q

/-- An event is entered: the queue takes it by R158 and ATTN is asserted. -/
def State.push (s : State) (e : Event) : State :=
  s.setNotices { queue := enter s.notices.queue e, attn := true }

/-- An event of the part with no sheet and no reason. -/
def plainEvent (kind : EventKind) (book value : Nat) : Event :=
  { kind := kind, reason := none, book := book, seq := 0, value := value }

/-- LINE_STATE: the new state in the low byte of the value, the previous one in the high byte (R150). -/
def lineStateEvent (old new : Mode) : Event := plainEvent .lineState 0 (new.code + 256 * old.code)

/-- HALT with its cause as reason and the line state the cause was taken in as value (R154). -/
def haltEvent (cause : HaltCause) (m : Mode) : Event :=
  { kind := .halt, reason := some cause.reason, book := 0, seq := 0, value := m.code }

/-- BOOK_SPOILED (R16). -/
def spoiledEvent (reason : Reason) (book seq value : Nat) : Event :=
  { kind := .bookSpoiled, reason := some reason, book := book, seq := seq, value := value }

/-- SHEET_REJECTED (R68). -/
def rejectedEvent (x : Sheet) : Event :=
  { kind := .sheetRejected, reason := x.reason, book := x.book, seq := x.seq, value := x.leaf }

end Sys2Proof.Machine
end

