-- ==== Sys2Proof/Machine/Plan.lean ====
section
/-! DEFINITION. The planning arithmetic of the Plan Unit: R27 to R42, a function of its inputs alone (R26). -/

namespace Sys2Proof.Machine

/-- The inputs of a plan as they stand at the plan point (R26). -/
structure PlanInput where
  sheet : Sheet
  leaf : Leaf
  book : Book
  format : Format
  die : DieRecord
  pins : List Pin
deriving DecidableEq, Repr

/-! ### Routing and the measurement checks -/

/-- DRILL when the leaf's expected caliper is above the die's maximum lift (R27, R46, R64). -/
def leafRoute (leaf : Leaf) (maxLift : Nat) : Route := if maxLift < leaf.caliper then .drill else .punch

/-- The measured width W, R minus L (R28). -/
def Edges.width (e : Edges) : Int := (e.r : Int) - e.l

/-- L + R, the doubled centre of the binding edge (R36). -/
def Edges.sum (e : Edges) : Int := (e.l : Int) + e.r

/-- The notch centre and the drilled hanger hole: the floor of (L + R)/2 (R39, R42). -/
def Edges.centre (e : Edges) : Nat := (e.l + e.r) / 2

/-- The width check fails (R28). -/
def widthFails (f : Format) (e : Edges) : Bool :=
  decide (e.r ≤ e.l) || decide ((f.wn : Int) + f.wt < e.width) || decide (e.width < (f.wn : Int) - f.wt)

/-- The failure of the caliper checks, double feed first; none with the caliper absent (R30). -/
def caliperFault (expected : Nat) : Option Nat → Option Reason
  | none => none
  | some measured =>
    if 17 * expected < 10 * measured then some .doubleFeed
    else if 2 * measured < expected then some .thin
    else none

/-- A mark matches its sheet's leaf and its book's tag (R31). -/
def markMatches (leaf book : Nat) (m : Mark) : Bool := m.leaf == leaf && m.tag == book % 256

/-- The failure of the mark check under the format's policy (R31). -/
def markFault (policy : MarkPolicy) (leaf book : Nat) (m : Option Mark) : Option Reason :=
  match policy, m with
  | .ignored, _ => none
  | _, some m => if markMatches leaf book m then none else some .markMismatch
  | .ifRead, none => none
  | .required, none => some .markMissing

/-! ### Slot count and margins -/

/-- The AUTO slot count, none where it fails with MARGIN (R33). -/
def autoSlotCount (f : Format) (n : Nat) (w : Int) : Option Nat :=
  let t1 := (w - 2 * f.m) / f.p + 1
  let t2 := if (n : Int) < t1 then (n : Int) else t1
  let t3 := if 0 < f.g ∧ (t2 - f.g) % 2 = 1 then t2 - 1 else t2
  if t3 < (f.g : Int) + 2 ∨ t3 < 2 then none else some t3.toNat

/-- The slot count T of a sheet (R33). -/
def slotCount (tBook : Option Nat) (f : Format) (n : Nat) (w : Int) : Option Nat :=
  match tBook with
  | some t => some t
  | none =>
    match f.mode with
    | .fixed t _ => some t
    | .auto => autoSlotCount f n w

/-- The margin check fails (R34). -/
def marginFails (f : Format) (t : Nat) (w : Int) : Bool := decide (w - ((t : Int) - 1) * f.p < 2 * f.m)

/-! ### The hole pattern -/

/-- Slot `j` lies in the centred hanger gap of a row of `t` slots (R35). -/
def inHangerGap (t g j : Nat) : Bool :=
  decide (0 < g) && decide ((t - g) / 2 ≤ j) && decide (j < (t - g) / 2 + g)

/-- Slot `j` lies in a fixed gap (R35). -/
def Gap.holds (x : Gap) (j : Nat) : Bool := decide (x.first ≤ j) && decide (j < x.first + x.count)

/-- The fixed gaps a format holds: none in AUTO mode (R23). -/
def Format.gaps (f : Format) : List Gap :=
  match f.mode with
  | .auto => []
  | .fixed _ gaps => gaps

/-- The hole slots in increasing order (R35). -/
def holeSlots (f : Format) (t : Nat) : List Nat :=
  (List.range t).filter fun j => !(inHangerGap t f.g j) && !(f.gaps.any fun x => x.holds j)

/-- The doubled position of slot `j` (R36). -/
def doubledSlot (e : Edges) (t p j : Nat) : Int := e.sum + (2 * (j : Int) - t + 1) * p

/-! ### The first pin and the shift -/

/-- The doubled shift 2s(k) that brings pin `k` under slot 0 (R37). -/
def doubledShift (x0 : Int) (d0 p : Nat) (k : Int) : Int := x0 - 2 * (d0 : Int) - 2 * k * (p : Int)

/-- The carriage reach in doubled values (R37). -/
def reach : Nat := 1200

/-- Candidate `a` is taken before `b`: smaller doubled shift, the smaller pin of two equal ones (R37). -/
def candidateBefore (shift : Int → Int) (a b : Int) : Bool :=
  decide ((shift a).natAbs < (shift b).natAbs) || (decide ((shift a).natAbs = (shift b).natAbs) && decide (a ≤ b))

/-- A candidate put into its place in the order of examination. -/
def insertCandidate (shift : Int → Int) (a : Int) : List Int → List Int
  | [] => [a]
  | b :: l => if candidateBefore shift a b then a :: b :: l else b :: insertCandidate shift a l

/-- The candidates examined, in their order (R37). With a pitch of 500 or more every `k` within reach is one of the
four whole numbers about (x0 - D0)/p taken here. -/
def candidates (x0 : Int) (d0 p : Nat) : List Int :=
  let shift := doubledShift x0 d0 p
  let q := (x0 - 2 * (d0 : Int)) / (2 * (p : Int))
  ([q - 1, q, q + 1, q + 2].filter fun k => decide ((shift k).natAbs ≤ reach)).foldr (insertCandidate shift) []

/-- The row of a candidate lies on the die (R37, the first two conditions). -/
def onDie (n t : Nat) (k : Int) : Bool := decide (0 ≤ k) && decide (k + t - 1 ≤ (n : Int) - 1)

/-- Pin `k` is ACTIVE in the pin map (R111). -/
def pinActive (pins : List Pin) (k : Nat) : Bool :=
  match pins[k]? with
  | some x => x.state == .active
  | none => false

/-- Every pin under a hole slot of a row beginning at pin `k` is ACTIVE (R37). -/
def rowActive (pins : List Pin) (slots : List Nat) (k : Nat) : Bool := slots.all fun j => pinActive pins (k + j)

/-- The first pin k0, or the reason the search fails (R37). -/
def firstPin (n t : Nat) (slots : List Nat) (pins : List Pin) (cands : List Int) : Except Reason Nat :=
  match cands.find? fun k => onDie n t k && rowActive pins slots k.toNat with
  | some k => .ok k.toNat
  | none => if cands.any (onDie n t) then .error .pinUnavailable else .error .outOfReach

/-- The carriage shift of a first pin: half the doubled shift, rounded toward zero (R38). -/
def carriageShift (x0 : Int) (d0 p : Nat) (k : Nat) : Int := (doubledShift x0 d0 p k).tdiv 2

/-! ### The notch and the hole list -/

/-- The failure of the notch check (R39). -/
def notchFault (tool : Option NotchTool) (centre : Nat) (caliper : Option Nat) : Option Reason :=
  match tool with
  | none => some .noNotch
  | some x =>
    if centre < x.reachMin ∨ x.reachMax < centre then some .notchReach
    else
      match caliper with
      | none => none
      | some c => if x.maxCaliper < c then some .notchReach else none

/-- The drill hole list of a board (R42): the slots left to right, half positions rounded down, and for a BACK leaf of a
DRILLED book the hanger hole last, unless its position is in the list already. -/
def holeList (e : Edges) (t p : Nat) (slots : List Nat) (hanger : Hanger) (role : Role) : List Nat :=
  let row := slots.map fun j => (doubledSlot e t p j / 2).toNat
  if hanger = .drilled ∧ role = .back ∧ ¬ row.contains e.centre then row ++ [e.centre] else row

/-! ### The plan -/

/-- The pattern of a sheet whose slot count is known: the board's list, or the punched row with its pins (R34 last part,
R37 to R42). -/
def planPattern (i : PlanInput) (e : Edges) (t : Nat) : Except Reason PlanBody :=
  let slots := holeSlots i.format t
  if leafRoute i.leaf i.die.maxLift = .drill then
    .ok (.board { t := t, slots := slots, holes := holeList e t i.format.p slots i.book.hanger i.leaf.role })
  else if i.die.n < t then .error .outOfReach
  else
    let x0 := doubledSlot e t i.format.p 0
    match firstPin i.die.n t slots i.pins (candidates x0 i.die.d0 i.format.p) with
    | .error r => .error r
    | .ok k0 =>
      let plan (notch : Option Nat) : PlanBody :=
        .punched { t := t, slots := slots, k0 := k0, shift := carriageShift x0 i.die.d0 i.format.p k0,
                   pins := slots.map fun j => k0 + j, notch := notch }
      if i.leaf.notch then
        match notchFault i.die.notch e.centre i.sheet.caliper with
        | some r => .error r
        | none => .ok (plan (some e.centre))
      else .ok (plan none)

/-- The plan of a sheet, or the reason of the first check that fails, in the order of R27. -/
def planSheet (i : PlanInput) : Except Reason PlanBody :=
  match i.sheet.edges with
  | none => .error .noGauge
  | some e =>
    if widthFails i.format e then .error .width
    else if i.format.skewLimit < i.sheet.skew then .error .skew
    else
      match caliperFault i.leaf.caliper i.sheet.caliper with
      | some r => .error r
      | none =>
        match markFault i.format.markPolicy i.sheet.leaf i.book.id i.sheet.mark with
        | some r => .error r
        | none =>
          if i.format.p ≠ i.die.p then .error .pitch
          else
            match slotCount i.book.tBook i.format i.die.n e.width with
            | none => .error .margin
            | some t => if marginFails i.format t e.width then .error .margin else planPattern i e t

/-- The slot count a plan holds. -/
def PlanBody.t : PlanBody → Nat
  | .punched p => p.t
  | .board b => b.t

end Sys2Proof.Machine
end

