-- ==== Sys2Proof/Machine/Ops.lean ====
section
/-! DEFINITION. The operations several commands share: looking things up, the end of a permit, the line's moves, the
halt, the spoil of a book and the removal of its record. -/

namespace Sys2Proof.Machine

/-! ### Looking things up -/

/-- The held record of a book id (R3). -/
def State.book? (s : State) (id : Nat) : Option Book := s.books.find? fun b => b.id == id

/-- The format in a slot (R22). -/
def State.format? (s : State) (slot : Nat) : Option Format := s.formats.getD slot none

/-- The number of held books that name a slot (R25). -/
def State.slotUses (s : State) (slot : Nat) : Nat := s.books.countP fun b => b.slot == slot

/-- A held book is SPOILED. -/
def State.isSpoiled (s : State) (id : Nat) : Bool :=
  match s.book? id with
  | some b => b.state == .spoiled
  | none => false

/-- One book's record is changed where it stands. -/
def State.updateBook (s : State) (id : Nat) (f : Book → Book) : State :=
  s.setBooks (s.books.map fun b => if b.id = id then f b else b)

/-- The die record, held in MOUNTED only (R100). -/
def State.die? (s : State) : Option DieRecord :=
  match s.die.iface with
  | .mounted d _ => some d
  | _ => none

/-- The pin map, held in MOUNTED only (R100). -/
def State.pins? (s : State) : Option (List Pin) :=
  match s.die.iface with
  | .mounted _ m => some m
  | _ => none

/-- A leaf is a board for the mounted die (R46, R64). With no die mounted no permit stands and no leaf is judged. -/
def State.routesDrill (s : State) (leaf : Leaf) : Bool :=
  match s.die? with
  | some d => leafRoute leaf d.maxLift == .drill
  | none => false

/-- The sheet records in file order: REG, PUNCH, NOTCH, then the LANE from head to tail (R80). -/
def Track.sheets (t : Track) : List Sheet :=
  t.reg.toList ++ t.punch.toList ++ t.notch.toList ++ t.lane.map (·.sheet)

/-- The track count (R61). -/
def Track.count (t : Track) : Nat := t.sheets.length

/-- The reserved sum of R62. -/
def Track.reserved (t : Track) : Nat :=
  t.lane.length + t.reg.toList.length + t.punch.toList.length + t.notch.toList.length

/-- The board at the DRILL station: the record of the entry marked away (R61). -/
def Track.board? (t : Track) : Option Sheet := (t.lane.find? (·.away)).map (·.sheet)

/-- The track holds a record of a book. -/
def Track.holdsBook (t : Track) (id : Nat) : Bool := t.sheets.any fun x => x.book == id

/-- The permit ends and the output is low (R65). -/
def Track.noPermit (t : Track) : Track := { t with permit := none, feedPermit := false }

/-- The standing permit carries a leaf of a book (R12). -/
def Track.permitFor (t : Track) (id : Nat) : Bool :=
  match t.permit with
  | some p => p.book == id
  | none => false

/-- The tray book (R134). -/
def Tray.book? : Tray → Option Nat
  | .empty => none
  | .building id => some id
  | .complete id => some id

/-- The served book (R138). -/
def Feeder.book? : Feeder → Option Nat
  | .idle => none
  | .feeding id _ _ => some id
  | .cutReady id _ => some id
  | .waitingWire id => some id

/-- The book being closed (R144). -/
def CloserMode.book? : CloserMode → Option Nat
  | .idle => none
  | .closing id _ _ => some id

/-! ### Removal of a spoiled record -/

/-- The five conditions of R19 for a SPOILED record. -/
def State.removable (s : State) (b : Book) : Bool :=
  b.state == .spoiled && !(s.track.holdsBook b.id) && !(s.tray.book? == some b.id)
    && !(s.wire.feeder.book? == some b.id) && !(s.track.permitFor b.id) && !(s.closer.mode.book? == some b.id)

/-- The Book Queue judges the removal conditions again (R18, R19). -/
def State.sweep (s : State) : State := s.setBooks (s.books.filter fun b => !(s.removable b))

/-! ### Moves of the line -/

/-- The line takes a state, with a LINE_STATE event when it changes (R150). -/
def State.lineTo (s : State) (m : Mode) : State :=
  if s.line.mode = m then s
  else (s.setLine { s.line with mode := m }).push (lineStateEvent s.line.mode m)

/-- The watch timer stops and a PENDING boundary drain becomes none (R152, R154, R155). -/
def State.stopWatch (s : State) : State :=
  s.setLine { s.line with watchTimer := .stopped, boundary := false }

/-- A staged profile becomes the active one (R84). -/
def Cycle.activate (c : Cycle) : Cycle :=
  match c.staged with
  | none => c
  | some p => { c with active := p, staged := none }

/-- The hold with clear (R87): the chain is loaded empty, and a staged profile becomes active. -/
def State.holdClear (s : State) : State :=
  (s.setCycle { s.cycle.activate with
      hold := .heldClear, count := 0, stroke := [], outstanding := false, chain := [] }).emit (.pinLoad [])

/-- The hold in place (R87). -/
def State.holdInPlace (s : State) : State :=
  s.setCycle { s.cycle.activate with hold := .heldInPlace }

/-- The end of a drain, judged (R153). -/
def State.judgeDrainEnd (s : State) : State :=
  if s.line.mode = .draining ∧ s.track.count = 0 ∧ s.track.permit = none then (s.lineTo .ready).holdClear else s

/-- Entry to DRAINING, the same whatever its cause (R152). -/
def State.enterDraining (s : State) : State := (s.stopWatch.lineTo .draining).judgeDrainEnd

/-- A halt acts on the Drill Controller (R127). -/
def Drill.halted (d : Drill) : Drill :=
  match d.mode, d.hole with
  | .drilling, .running _ => { d with mode := .suspendPending .halt }
  | _, _ => d

/-- A halt cause is taken (R154). -/
def State.halt (s : State) (cause : HaltCause) : State :=
  if s.line.mode = .halted then s.push (haltEvent cause .halted)
  else
    let old := s.line.mode
    let s := s.setLine { s.line with
      mode := .halted, haltCause := some cause, watchTimer := .stopped, boundary := false }
    let s := (s.holdInPlace.setTrack s.track.noPermit).setDrill s.drill.halted
    ((s.push (haltEvent cause old)).push (lineStateEvent old .halted)).sweep

/-! ### The Drill Controller's shared steps -/

/-- The controller becomes IDLE and holds no board (R121, R128, R130). -/
def Drill.toIdle (d : Drill) : Drill := { d with mode := .idle, board := none, index := 0, hole := .none }

/-- The board's entry stops being marked away and the DRILL station is empty (R71). -/
def Track.boardBack (t : Track) : Track := { t with lane := t.lane.map fun e => { e with away := false } }

/-- A board is finished, with all its holes or as aborted (R121, R128). -/
def State.finishBoard (s : State) : State := (s.setTrack s.track.boardBack).setDrill s.drill.toIdle

/-- The position at the hole index is sent and DRILL_GO pulsed (R119, R120, R126). -/
def State.sendHole (s : State) : State :=
  match s.drill.board.bind fun b => b.holes[s.drill.index]? with
  | some hu =>
    ((s.setDrill { s.drill with mode := .drilling, hole := .running 0 }).emit (.drillPosition hu)).emit .drillGo
  | none => s.setDrill { s.drill with mode := .drilling }

/-! ### The Wire Feed's start -/

/-- WIRE_LOW at a start that takes the spool through the low mark (R140). -/
def State.judgeWireLow (s : State) (book before : Nat) : State :=
  if 0 < s.wire.lowMark ∧ s.wire.lowMark ≤ before ∧ s.wire.spool < s.wire.lowMark then
    s.push (plainEvent .wireLow book (if s.wire.spool < 65535 then s.wire.spool else 65535))
  else s

/-- The start of R139 for a book; `first` is false where a waiting start is made again (R143). -/
def State.startCut (s : State) (b : Book) (first : Bool) : State :=
  let t := b.tBook.getD 0
  if t ≤ s.wire.spool then
    ((s.setWire { s.wire with feeder := .feeding b.id t (.running 0), spool := s.wire.spool - t }).emit
      (.wireCut t (b.hanger == .hook))).judgeWireLow b.id s.wire.spool
  else
    let s := s.setWire { s.wire with feeder := .waitingWire b.id }
    if first then s.push (plainEvent .wireOut b.id t) else s

/-- The Wire Feed judges whether to start for the tray book (R139). -/
def State.wireStart (s : State) : State :=
  match s.wire.feeder, s.tray.book?.bind s.book? with
  | .idle, some b => if b.state = .spoiled then s else s.startCut b true
  | _, _ => s

/-- The feeder becomes IDLE by R142: the records are judged, and a start for the tray book. -/
def State.dropCut (s : State) : State := (s.setWire { s.wire with feeder := .idle }).sweep.wireStart

/-! ### The spoil of a book -/

/-- A record takes route REJECT from the spoil of its book; a READY plan becomes DISCARDED (R73 to R75). -/
def Sheet.condemn (x : Sheet) : Sheet :=
  if x.route = .reject then x
  else
    { x with
      route := .reject, reason := some .spoiledBook
      plan := x.plan.map fun p => if p.state = .ready then { p with state := .discarded } else p }

/-- A record of the spoiled book is condemned, any other stays. -/
def Sheet.condemnFor (id : Nat) (x : Sheet) : Sheet := if x.book = id then x.condemn else x

/-- The spoil in the track: records at REG, PUNCH and NOTCH; LANE entries keep theirs (R73 to R76). -/
def Track.condemn (t : Track) (id : Nat) : Track :=
  { t with
    reg := t.reg.map (Sheet.condemnFor id), punch := t.punch.map (Sheet.condemnFor id)
    notch := t.notch.map (Sheet.condemnFor id) }

/-- The spoil at the Drill Controller (R128). -/
def State.drillSpoil (s : State) (id : Nat) : State :=
  if s.drill.board.any fun b => b.book == id then
    match s.drill.mode, s.drill.hole with
    | .drilling, .running _ => s.setDrill { s.drill with mode := .aborting }
    | .suspendPending _, _ => s.setDrill { s.drill with mode := .aborting }
    | .suspended _, _ => s.finishBoard
    | _, _ => s
  else s

/-- The dump of a stack in the counters of its book (R4, R137). -/
def Book.dumpStack (b : Book) : Book := { b with dumped := b.dumped + b.stacked, stacked := 0 }

/-- The spoil at the Stacker: the stack of the tray book is dumped (R137), and a hook wait ends (R146). -/
def State.traySpoil (s : State) (id : Nat) : State :=
  if s.tray.book? = some id then
    (((s.updateBook id Book.dumpStack).setTray .empty).setCloser { s.closer with hookWait := false }).emit (.flap false)
  else s

/-- The spoil at the Wire Feed (R142). -/
def State.wireSpoil (s : State) (id : Nat) : State :=
  match s.wire.feeder with
  | .cutReady book _ => if book = id then s.dropCut else s
  | .waitingWire book => if book = id then s.dropCut else s
  | _ => s

/-- The record's part of a spoil (R15). -/
def Book.spoil (reason : Reason) (b : Book) : Book := { b with state := .spoiled, reason := some reason }

/-- A spoil cause is taken for a book (R15 to R17): nothing for a book that is SPOILED already or not held. -/
def State.spoil (s : State) (id : Nat) (reason : Reason) (seq value : Nat) : State :=
  match s.book? id with
  | none => s
  | some b =>
    if b.state = .spoiled then s
    else
      let s := (s.updateBook id (Book.spoil reason)).push (spoiledEvent reason id seq value)
      ((((s.setTrack (s.track.condemn id)).drillSpoil id).traySpoil id).wireSpoil id).sweep

/-! ### The Closer -/

/-- The close of the tray book starts (R145). -/
def State.startClose (s : State) (b : Book) : State :=
  let limit := ((s.format? b.slot).map (·.closeLimit)).getD 0
  let s := s.updateBook b.id fun b => { b with state := .closing }
  let s := s.setWire { s.wire with
    feeder := .idle, hooks := if b.hanger = .hook then s.wire.hooks - 1 else s.wire.hooks }
  ((s.setTray .empty).setCloser { mode := .closing b.id limit (.running 0), hookWait := false }).emit .closeGo

/-- The Closer judges its start requirements (R144), and begins a hook wait where only the hook is missing (R146). -/
def State.judgeCloser (s : State) : State :=
  match s.tray, s.closer.mode, s.wire.feeder with
  | .complete id, .idle, .cutReady served _ =>
    if served = id ∧ s.line.mode ≠ .halted then
      match s.book? id with
      | none => s
      | some b =>
        if b.hanger = .hook ∧ s.wire.hooks = 0 then
          if s.closer.hookWait then s
          else (s.setCloser { s.closer with hookWait := true }).push (plainEvent .hooksOut id 0)
        else s.startClose b
    else s
  | _, _, _ => s

end Sys2Proof.Machine
end

