-- ==== Sys2Proof/Machine/Operands.lean ====
section
/-! DEFINITION. The layouts of 11_record_layouts.md: request bodies read into records, records written into replies. -/

namespace Sys2Proof.Machine

/-! ### Reading request bodies -/

/-- Every element of a list of optional values, or none. -/
def allSome {α : Type} : List (Option α) → Option (List α)
  | [] => some []
  | none :: _ => none
  | some a :: l => (allSome l).map fun r => a :: r

/-- `n` lies in a range, both ends included. -/
def inRange (lo hi n : Nat) : Bool := decide (lo ≤ n) && decide (n ≤ hi)

/-- A fixed-gap place of the format record: first slot and a count of 1 to 16 (R22). -/
def readGap (b : List Byte) (o : Nat) : Option Gap :=
  if inRange 1 16 (u8 b (o + 1)) then some { first := u8 b o, count := u8 b (o + 1) } else none

/-- The slot mode of a format record at offset `o` with the fields held in it (R22, R23): T_fixed 2 to 64 and 0 to 3
fixed gaps in FIXED mode; what stands in those places in AUTO mode is not read. -/
def readSlotMode (b : List Byte) (o : Nat) : Option SlotMode :=
  if u8 b (o + 6) = 0 then some .auto
  else if u8 b (o + 6) = 1 then
    if inRange 2 64 (u8 b (o + 7)) && decide (u8 b (o + 11) ≤ 3) then
      (allSome ((List.range (u8 b (o + 11))).map fun i => readGap b (o + 12 + 2 * i))).map
        fun gaps => .fixed (u8 b (o + 7)) gaps
    else none
  else none

/-- The format record at offset `o`, none where check 4 of R24 fails. -/
def readFormatRecord (b : List Byte) (o : Nat) : Option Format :=
  match readSlotMode b o, MarkPolicy.ofCode (u8 b (o + 19)) with
  | some mode, some policy =>
    if inRange 8000 50000 (u16 b o) && inRange 0 1000 (u16 b (o + 2)) && inRange 500 2000 (u16 b (o + 4))
        && inRange 200 3000 (u16 b (o + 8)) && inRange 0 16 (u8 b (o + 10))
        && inRange 100 5000 (u16 b (o + 20)) && inRange 500 10000 (u16 b (o + 22)) then
      some { wn := u16 b o, wt := u16 b (o + 2), p := u16 b (o + 4), mode := mode, m := u16 b (o + 8)
             g := u8 b (o + 10), skewLimit := u8 b (o + 18), markPolicy := policy
             stepLimit := u16 b (o + 20), closeLimit := u16 b (o + 22) }
    else none
  | _, _ => none

/-- Two gaps share a slot (R23). -/
def Gap.meets (x y : Gap) : Bool :=
  decide (x.first < y.first + y.count) && decide (y.first < x.first + x.count)

/-- No two gaps of a list share a slot (R23). -/
def gapsApart : List Gap → Bool
  | [] => true
  | x :: l => !(l.any x.meets) && gapsApart l

/-- The consistency conditions of a FIXED format (R23). An AUTO format has none. -/
def Format.consistent (f : Format) : Bool :=
  match f.mode with
  | .auto => true
  | .fixed t gaps =>
    (f.g == 0 || (decide (f.g + 2 ≤ t) && (t - f.g) % 2 == 0))
      && gaps.all (fun x => decide (x.first + x.count ≤ t))
      && gapsApart gaps
      && (f.g == 0 || gaps.all fun x => !(x.meets { first := (t - f.g) / 2, count := f.g }))
      && decide (f.g + (gaps.map (·.count)).sum + 2 ≤ t)

/-- The leaf entry at offset `o`, none where check 7 of R6 fails for it. -/
def readLeaf (b : List Byte) (o : Nat) : Option Leaf :=
  match Role.ofCode (u8 b o), flagOfCode (u8 b (o + 3)) with
  | some role, some notch =>
    if inRange 40 3000 (u16 b (o + 1)) then some { role := role, caliper := u16 b (o + 1), notch := notch } else none
  | _, _ => none

/-- The `n` leaf entries from offset 5 of a QUEUE_BOOK body. -/
def readLeaves (b : List Byte) (n : Nat) : Option (List Leaf) :=
  allSome ((List.range n).map fun i => readLeaf b (5 + 4 * i))

/-! ### Writing reply bodies -/

/-- An event entry, 8 bytes. -/
def Event.bytes (e : Event) : List Byte :=
  [e.kind.code, reasonCode e.reason] ++ le16 e.book ++ le16 e.seq ++ le16 e.value

/-- A fixed-gap place; a place beyond the count is 0 (R177). -/
def gapPlace (gaps : List Gap) (i : Nat) : List Byte :=
  match gaps[i]? with
  | some x => [byte x.first, byte x.count]
  | none => [0, 0]

/-- The T_fixed field of a format record, 0 in AUTO mode (R177). -/
def SlotMode.tFixed : SlotMode → Nat
  | .auto => 0
  | .fixed t _ => t

/-- A format record, 24 bytes. -/
def Format.bytes (f : Format) : List Byte :=
  le16 f.wn ++ le16 f.wt ++ le16 f.p ++ [f.mode.code, byte f.mode.tFixed] ++ le16 f.m
    ++ [byte f.g, byte f.gaps.length] ++ gapPlace f.gaps 0 ++ gapPlace f.gaps 1 ++ gapPlace f.gaps 2
    ++ [byte f.skewLimit, f.markPolicy.code] ++ le16 f.stepLimit ++ le16 f.closeLimit

/-- A leaf entry, 4 bytes. -/
def Leaf.bytes (l : Leaf) : List Byte := [l.role.code] ++ le16 l.caliper ++ [flagByte l.notch]

/-- A field whose absent code is 0xFFFF (R176). -/
def orFFFF (n : Option Nat) : List Byte := le16 (n.getD 65535)

/-- The plan fields of a sheet entry at offsets 18 to 24: plan state, T, k0, s, notch centre. -/
def planBytes : Option Plan → List Byte
  | none => [0, 0, 0, 0, 0] ++ orFFFF none
  | some p =>
    match p.body with
    | .punched x =>
      [p.state.code, byte x.t, byte x.k0] ++ le16 (BitVec.ofInt 16 x.shift).toNat ++ orFFFF x.notch
    | .board x => [p.state.code, byte x.t, 0, 0, 0] ++ orFFFF none

/-- The flags of a sheet entry: away, mark present, notch done (11_record_layouts.md). -/
def sheetFlags (x : Sheet) (away : Bool) : Nat :=
  (if away then 1 else 0) + (if x.mark.isSome then 2 else 0) + (if x.notchDone then 4 else 0)

/-- A sheet entry, 28 bytes, for a record at a location of R176. -/
def Sheet.bytes (x : Sheet) (location : Byte) (away : Bool) : List Byte :=
  le16 x.seq ++ le16 x.book ++ [byte x.leaf, x.role.code, x.route.code, location, byte (sheetFlags x away)]
    ++ orFFFF (x.edges.map (·.l)) ++ orFFFF (x.edges.map (·.r)) ++ [byte x.skew] ++ orFFFF x.caliper
    ++ [byte ((x.mark.map (·.leaf)).getD 0), byte ((x.mark.map (·.tag)).getD 0)]
    ++ planBytes x.plan ++ [byte x.holesDrilled, reasonCode x.reason, 0]

/-- A LANE entry: location DRILL and marked away, or location LANE. -/
def LaneEntry.bytes (e : LaneEntry) : List Byte := e.sheet.bytes (if e.away then 5 else 4) e.away

/-- The sheet entries of READ_TRACK in file order (R80). -/
def Track.entries (t : Track) : List Byte :=
  (t.reg.toList.map fun x => x.bytes 1 false).flatten ++ (t.punch.toList.map fun x => x.bytes 2 false).flatten
    ++ (t.notch.toList.map fun x => x.bytes 3 false).flatten ++ (t.lane.map LaneEntry.bytes).flatten

/-- A profile, 8 bytes. -/
def Profile.bytes (p : Profile) : List Byte := le16 p.lc ++ le16 p.pc ++ le16 p.po ++ le16 p.pa

/-- A pin of READ_PINS, 5 bytes. -/
def Pin.bytes (x : Pin) : List Byte := byte (x.state.code + if x.worn then 128 else 0) :: le32 x.count

end Sys2Proof.Machine
end

