-- ==== Sys2Proof/Machine/Response.lean ====
section
/-! DEFINITION. What the owner of a request answers (R172). -/

namespace Sys2Proof.Machine

/-- The outcome of a request at its dispatch: the state after its own effect, the status, and the reply body. -/
structure Response where
  st : State
  status : Status
  body : List Byte
deriving DecidableEq, Repr

/-- A refused request changes nothing, and its reply carries no body (R172). -/
def State.refuse (s : State) (status : Status) : Response := { st := s, status := status, body := [] }

/-- An accepted request. -/
def State.accept (s : State) (body : List Byte) : Response := { st := s, status := .ok, body := body }

end Sys2Proof.Machine
end

