-- ==== Sys2Proof/Machine/DieInterface.lean ====
section
/-! DEFINITION. The Die Interface: contact, descriptor read, mounting, removal and the pin requests
(06_die_pins_and_the_notch_tool.md). -/

namespace Sys2Proof.Machine

/-! ### The descriptor -/

/-- The bytes of the fixed header and of the table headers (11_record_layouts.md). -/
def headersLength (d : List Byte) : Nat := 10 + 8 * u8 d 6

/-- The total length field (11_record_layouts.md). -/
def totalLength (d : List Byte) : Nat := u16 d 8

/-- A table header: id, revision, length in words and pointer (R104). -/
structure TableHeader where
  id : Nat
  revision : Nat
  words : Nat
  pointer : Nat
deriving DecidableEq, Repr

/-- The table headers in order (R104). -/
def tableHeaders (d : List Byte) : List TableHeader :=
  (List.range (u8 d 6)).map fun i =>
    let o := 10 + 8 * i
    { id := u8 d o, revision := u8 d (o + 1), words := u16 d (o + 2), pointer := u24 d (o + 4) }

/-- The fewest words of a known table, none for an unknown id (11_record_layouts.md). -/
def minWords (id : Nat) : Option Nat :=
  if id = 1 then some 3 else if id = 2 then some 2 else if id = 3 then some 5 else none

/-- A table header with a known id is malformed by itself (R104, the first four cases). -/
def headerMalformed (d : List Byte) (h : TableHeader) : Bool :=
  match minWords h.id with
  | none => false
  | some n =>
    h.revision == 0 || decide (totalLength d < h.pointer + 4 * h.words) || decide (h.pointer < headersLength d)
      || decide (h.words < n)

/-- A known id is carried by an earlier header too (R104, the last case). -/
def idRepeated : List TableHeader → Bool
  | [] => false
  | h :: l => ((minWords h.id).isSome && l.any fun x => x.id == h.id) || idRepeated l

/-- The offset of a known table, where a header carries its id. -/
def tableAt (d : List Byte) (id : Nat) : Option Nat :=
  ((tableHeaders d).find? fun h => h.id == id).map (·.pointer)

/-- The pin table fields at an offset are in range (R105). -/
def pinTableOk (d : List Byte) (o : Nat) : Bool :=
  let n := u8 d o
  let p := u16 d (o + 2)
  let d0 := u16 d (o + 4)
  inRange 16 64 n && inRange 500 2000 p && inRange 0 60000 d0 && decide (d0 + (n - 1) * p ≤ 60000)
    && inRange 50 1500 (u16 d (o + 6)) && inRange 1 65535 (u16 d (o + 8))

/-- The notch tool fields at an offset are in range (R106). -/
def notchTableOk (d : List Byte) (o : Nat) : Bool :=
  inRange 0 60000 (u16 d o) && inRange (u16 d o) 60000 (u16 d (o + 2)) && inRange 1 4095 (u16 d (o + 4))

/-- The pin numbers the retired pin table at an offset gives: the first count places (R107). -/
def retiredPins (d : List Byte) (o : Nat) : List Nat := (List.range (u8 d o)).map fun i => u8 d (o + 1 + i)

/-- The retired pin table at an offset passes check 11 (R107). -/
def retiredTableOk (d : List Byte) (n o : Nat) : Bool :=
  decide (u8 d o ≤ 16) && (retiredPins d o).all fun k => decide (k < n)

/-- The distinct pins of a list in increasing order (R107, R116). -/
def distinctBelow (n : Nat) (l : List Nat) : List Nat := (List.range n).filter fun k => l.contains k

/-- The die record of a descriptor whose checks all pass, its pin table at offset `o` (R105 to R108). -/
def dieRecord (d : List Byte) (o : Nat) : DieRecord :=
  { minor := u8 d 5, n := u8 d o, p := u16 d (o + 2), d0 := u16 d (o + 4), maxLift := u16 d (o + 6)
    pinLife := u16 d (o + 8)
    notch := (tableAt d 2).map fun x =>
      { reachMin := u16 d x, reachMax := u16 d (x + 2), maxCaliper := u16 d (x + 4) }
    retired := match tableAt d 3 with
      | none => []
      | some x => distinctBelow (u8 d o) (retiredPins d x) }

/-- Checks 6 to 11 of R103 on a descriptor whose region and stored CRC are fetched. -/
def judgeRegion (d : List Byte) : Except DieCheck DieRecord :=
  if (crc (d.take (totalLength d))).toNat ≠ u16 d (totalLength d) then .error .crc
  else if (tableHeaders d).any (headerMalformed d) || idRepeated (tableHeaders d) then .error .tableForm
  else
    match tableAt d 1 with
    | none => .error .noPinTable
    | some o =>
      if !(pinTableOk d o) then .error .pinValue
      else if !((tableAt d 2).all (notchTableOk d)) then .error .notchValue
      else if !((tableAt d 3).all (retiredTableOk d (u8 d o))) then .error .retiredValue
      else .ok (dieRecord d o)

/-- The judgement of a read by the checks of R103, on the bytes the transfers fetched (log 9). The fixed header is
fetched and judged first, then the region with the two CRC bytes (R102). -/
def judgeDescriptor (d : List Byte) : Except DieCheck DieRecord :=
  if d.length < 10 then .error .noResponse
  else if d.take 4 ≠ [0x4F, 0x46, 0x44, 0x31] then .error .signature
  else if u8 d 4 ≠ 1 then .error .revision
  else if !(inRange 1 4 (u8 d 6)) then .error .headerCount
  else if totalLength d < headersLength d ∨ 2048 < totalLength d + 2 then .error .length
  else if d.length < totalLength d + 2 then .error .noResponse
  else judgeRegion d

/-! ### Contact, mounting, removal -/

/-- The I2C address of the descriptor memory (R102). -/
def descriptorAddress : Nat := 0x52

/-- The contact closes (R101). -/
def State.contactCloses (s : State) : State :=
  match s.die.iface with
  | .empty =>
    (s.setDie { s.die with contact := true, iface := .mounting }).emit (.descriptorRead descriptorAddress)
  | _ => s.setDie { s.die with contact := true }

/-- The removal is reported to Line Control (R110, item 3). R110 has no row for NO_DIE, where no die is held: the line
stays there (log 15). -/
def State.dieGone (s : State) : State :=
  match s.line.mode with
  | .ready => s.lineTo .noDie
  | .noDie => s
  | _ => s.halt .dieRemoved

/-- The contact opens (R101, R110). -/
def State.contactOpens (s : State) : State :=
  let t := s.setDie { s.die with contact := false, iface := .empty }
  match s.die.iface with
  | .mounted d _ => (t.push (plainEvent .dieRemoved 0 d.n)).dieGone
  | _ => t

/-- The pin map built at a mount (R108, item 2). -/
def freshPins (d : DieRecord) : List Pin :=
  (List.range 64).map fun k =>
    { state := if d.n ≤ k then .absent else if d.retired.contains k then .retired else .active
      worn := false, count := 0 }

/-- A read completes valid (R108). -/
def State.mount (s : State) (d : DieRecord) : State :=
  let s := (s.setDie { s.die with iface := .mounted d (freshPins d) }).push (plainEvent .dieMounted 0 d.n)
  if s.line.mode = .noDie then s.lineTo .ready else s

/-- A read completes invalid (R109). -/
def State.refuseDie (s : State) (c : DieCheck) : State :=
  (s.setDie { s.die with iface := .refused, lastRefusal := some c }).push (plainEvent .dieRefused 0 c.number)

/-- The descriptor read completes (R103); with no read in flight there is no completion to take (R101, log 5). -/
def State.readComplete (s : State) (fetched : List Byte) : State :=
  match s.die.iface with
  | .mounting =>
    match judgeDescriptor fetched with
    | .ok d => s.mount d
    | .error c => s.refuseDie c
  | _ => s

/-! ### The pin requests -/

/-- The pin map is replaced under the mounted die. -/
def State.setPins (s : State) (d : DieRecord) (m : List Pin) : State := s.setDie { s.die with iface := .mounted d m }

/-- One pin's service state is set; its count and worn flag stay (R111). -/
def setPinState (m : List Pin) (k : Nat) (x : PinState) : List Pin := m.modify k fun p => { p with state := x }

/-- A pin ACTIVE or WITHDRAWN, whose state requests may change (R112, R113). -/
def pinInService (m : List Pin) (k : Nat) : Bool :=
  match m[k]? with
  | some p => p.state == .active || p.state == .withdrawn
  | none => false

/-- The shared checks of WITHDRAW_PIN and RESTORE_PIN, and the state the pin takes (R112, R113). -/
def setPinRequest (x : PinState) (body : List Byte) (s : State) : Response :=
  if body.length ≠ 1 then s.refuse .badLength
  else if 63 < u8 body 0 then s.refuse .badValue
  else
    match s.die.iface with
    | .mounted d m =>
      if pinInService m (u8 body 0) then (s.setPins d (setPinState m (u8 body 0) x)).accept [] else s.refuse .badValue
    | _ => s.refuse .wrongState

/-- WITHDRAW_PIN (R112). -/
def reqWithdrawPin (body : List Byte) (s : State) : Response := setPinRequest .withdrawn body s

/-- RESTORE_PIN (R113). -/
def reqRestorePin (body : List Byte) (s : State) : Response := setPinRequest .active body s

/-- The stroke count at which a pin is worn (R97, R114). -/
def DieRecord.wornAt (d : DieRecord) : Nat := d.pinLife * 1000

/-- One pin's count is preset, its worn flag recomputed (R114). -/
def presetPin (d : DieRecord) (m : List Pin) (k n : Nat) : List Pin :=
  m.modify k fun p => { p with count := n, worn := decide (d.wornAt ≤ n) }

/-- The counts of a PRESET_PIN_COUNTS body. -/
def presetCounts (body : List Byte) : List Nat := (List.range (u8 body 1)).map fun i => u32 body (2 + 4 * i)

/-- The counts are preset from pin `k` on, in order (R114). -/
def presetPins (d : DieRecord) (m : List Pin) (k : Nat) : List Nat → List Pin
  | [] => m
  | n :: l => presetPins d (presetPin d m k n) (k + 1) l

/-- PRESET_PIN_COUNTS (R114). -/
def reqPresetPinCounts (body : List Byte) (s : State) : Response :=
  if body.length < 2 ∨ !(inRange 1 16 (u8 body 1)) ∨ body.length ≠ 2 + 4 * u8 body 1 then s.refuse .badLength
  else if s.line.mode ≠ .ready then s.refuse .wrongState
  else
    match s.die.iface with
    | .mounted d m =>
      if u8 body 0 + u8 body 1 ≤ d.n then
        (s.setPins d (presetPins d m (u8 body 0) (presetCounts body))).accept []
      else s.refuse .badValue
    | _ => s.refuse .wrongState

/-- How many pins of the map stand in a service state (R115). -/
def countPins (m : List Pin) (x : PinState) : Nat := m.countP fun p => p.state == x

/-- READ_PINS (R115). -/
def reqReadPins (body : List Byte) (s : State) : Response :=
  if body.length ≠ 2 then s.refuse .badLength
  else if !(inRange 0 63 (u8 body 0) && inRange 1 64 (u8 body 1) && decide (u8 body 0 + u8 body 1 ≤ 64)) then
    s.refuse .badValue
  else
    match s.pins? with
    | none => s.refuse .wrongState
    | some m =>
      s.accept ([byte (countPins m .active), byte (countPins m .withdrawn), byte (countPins m .retired),
                 byte (countPins m .absent), byte (m.countP (·.worn)), byte (u8 body 0), byte (u8 body 1)]
        ++ (((m.drop (u8 body 0)).take (u8 body 1)).map Pin.bytes).flatten)

/-- The 16 retired places of READ_DIE in increasing order, 0 beyond the count. -/
def retiredPlaces (l : List Nat) : List Byte := (List.range 16).map fun i => byte (l.getD i 0)

/-- The die record fields of READ_DIE, 0 outside MOUNTED (R116, R177). -/
def dieBytes : Option DieRecord → List Byte
  | none => List.replicate 34 0
  | some d =>
    [byte d.minor, byte d.n] ++ le16 d.p ++ le16 d.d0 ++ le16 d.maxLift ++ le16 d.pinLife
      ++ [flagByte d.notch.isSome] ++ le16 ((d.notch.map (·.reachMin)).getD 0)
      ++ le16 ((d.notch.map (·.reachMax)).getD 0) ++ le16 ((d.notch.map (·.maxCaliper)).getD 0)
      ++ [byte d.retired.length] ++ retiredPlaces d.retired

/-- READ_DIE (R116). -/
def reqReadDie (body : List Byte) (s : State) : Response :=
  if body.length ≠ 0 then s.refuse .badLength
  else s.accept ([s.die.iface.code, byte ((s.die.lastRefusal.map DieCheck.number).getD 0)] ++ dieBytes s.die?)

end Sys2Proof.Machine
end

