-- ==== Sys2Proof/Machine/BookQueue.lean ====
section
/-! DEFINITION. The Book Queue: QUEUE_BOOK, CANCEL_BOOK, READ_BOOK (R1 to R21). -/

namespace Sys2Proof.Machine

/-- The most book records held (R3). -/
def maxBooks : Nat := 16

/-- The record of an accepted QUEUE_BOOK (R1). -/
def newBook (id slot : Nat) (hanger : Hanger) (leaves : List Leaf) : Book :=
  { id := id, slot := slot, hanger := hanger, leaves := leaves, state := .queued, arrived := 0, stacked := 0,
    rejected := 0, dumped := 0, tBook := none, reason := none }

/-- Checks 7 to 10 of R6 on a request whose format is found, and the record it makes: a refusing status, or the
record. -/
def judgeBook (body : List Byte) (f : Format) (diePitch : Option Nat) : Except Status Book :=
  match Hanger.ofCode (u8 body 3), readLeaves body (u8 body 4) with
  | some hanger, some leaves =>
    if !(inRange 2 40 (u8 body 4)) then .error .badValue
    else if hanger = .hook ∧ f.g = 0 then .error .badValue
    else if hanger = .drilled ∧ ¬ leaves.any (fun l => l.role == .back) then .error .badValue
    else if diePitch.any (fun p => p != f.p) then .error .mismatch
    else .ok (newBook (u16 body 0) (u8 body 2) hanger leaves)
  | _, _ => .error .badValue

/-- QUEUE_BOOK, the checks in the order of R6; an accepted book is appended (R3). -/
def reqQueueBook (body : List Byte) (s : State) : Response :=
  if body.length < 5 ∨ body.length ≠ 5 + 4 * u8 body 4 then s.refuse .badLength
  else if maxBooks ≤ s.books.length then s.refuse .full
  else if u16 body 0 = 0 then s.refuse .badValue
  else if (s.book? (u16 body 0)).isSome then s.refuse .inUse
  else if 7 < u8 body 2 then s.refuse .badValue
  else
    match s.format? (u8 body 2) with
    | none => s.refuse .notFound
    | some f =>
      match judgeBook body f (s.die?.map (·.p)) with
      | .error status => s.refuse status
      | .ok b => (s.setBooks (s.books ++ [b])).accept []

/-- The record of a book is removed at once (R14, R18). -/
def State.removeBook (s : State) (id : Nat) : State := s.setBooks (s.books.filter fun b => !(b.id == id))

/-- CANCEL_BOOK (R14). -/
def reqCancelBook (body : List Byte) (s : State) : Response :=
  if body.length ≠ 2 then s.refuse .badLength
  else if u16 body 0 = 0 then s.refuse .badValue
  else
    let id := u16 body 0
    match s.book? id with
    | none => s.refuse .notFound
    | some b =>
      match b.state with
      | .queued =>
        if s.track.permitFor id then (s.spoil id .cancelled 0 0).accept [] else (s.removeBook id).accept []
      | .feeding => (s.spoil id .cancelled 0 0).accept []
      | .fed => (s.spoil id .cancelled 0 0).accept []
      | .stacked => (s.spoil id .cancelled 0 0).accept []
      | .closing => s.refuse .wrongState
      | .spoiled => s.accept []

/-- The single-book reply of READ_BOOK, 14 + 4n bytes; `place` counts from 1 (R9). -/
def Book.bytes (b : Book) (place : Nat) : List Byte :=
  [byte place, byte (b.leaves.length - b.arrived)] ++ le16 b.id
    ++ [byte b.slot, b.hanger.code, byte b.leaves.length, b.state.code, byte b.arrived, byte b.stacked,
        byte b.rejected, byte b.dumped, byte (b.tBook.getD 0), reasonCode b.reason]
    ++ (b.leaves.map Leaf.bytes).flatten

/-- An entry of the summary of READ_BOOK with id 0 (R10). -/
def Book.summary (b : Book) : List Byte := le16 b.id ++ [b.state.code, byte b.leaves.length, byte b.arrived]

/-- READ_BOOK (R9, R10). -/
def reqReadBook (body : List Byte) (s : State) : Response :=
  if body.length ≠ 2 then s.refuse .badLength
  else if u16 body 0 = 0 then s.accept (byte s.books.length :: (s.books.map Book.summary).flatten)
  else
    match s.book? (u16 body 0) with
    | none => s.refuse .notFound
    | some b => s.accept (b.bytes (s.books.findIdx (fun x => x.id == u16 body 0) + 1))

/-- The expected leaf: the first held book QUEUED or FEEDING, with its next leaf (R11). -/
def State.expectedLeaf (s : State) : Option (Book × Leaf) :=
  match s.books.find? fun b => b.state == .queued || b.state == .feeding with
  | none => none
  | some b => (b.leaves[b.arrived]?).map fun l => (b, l)

/-- The arrival of a leaf in its book's record (R13, items 1 to 4). -/
def Book.arrive (b : Book) : Book :=
  let b := { b with arrived := b.arrived + 1 }
  match b.state with
  | .queued => { b with state := if b.arrived = b.leaves.length then .fed else .feeding }
  | .feeding => { b with state := if b.arrived = b.leaves.length then .fed else .feeding }
  | _ => b

end Sys2Proof.Machine
end

