-- ==== Sys2Proof/Machine/ArrivalLatch.lean ====
section
/-! DEFINITION. The Arrival Latch: the lead edge and the four measurements (R44 to R60). -/

namespace Sys2Proof.Machine

/-- The route of a sheet at its creation (R46). -/
def State.routeAtCreation (s : State) (b : Book) (leaf : Leaf) : Route :=
  if b.state = .spoiled then .reject else if s.routesDrill leaf then .drill else .punch

/-- The sheet record created at a lead edge (R46): the leaf number is the new arrived count (R13). -/
def newSheet (seq : Nat) (b : Book) (leaf : Leaf) (route : Route) : Sheet :=
  { seq := seq, book := b.id, leaf := b.arrived + 1, role := leaf.role, route := route
    reason := if route = .reject then some .spoiledBook else none
    edges := none, skew := 255, caliper := none, mark := none, plan := none, notchDone := false, holesDrilled := 0 }

/-- The seq after a seq (R45, R49). -/
def seqSucc (n : Nat) : Nat := (n + 1) % 65536

/-- The admission of a sheet for a leaf of a held book (R45, R13). The record is judged for removal again because the
permit that carried its leaf ends (R19). -/
def State.admitSheet (s : State) (b : Book) (leaf : Leaf) : State :=
  let sheet := newSheet s.arrival.nextSeq b leaf (s.routeAtCreation b leaf)
  let s := s.setTrack { s.track.noPermit with reg := some sheet }
  let s := s.setArrival
    { nextSeq := seqSucc s.arrival.nextSeq, window := .waiting, conversion := some s.arrival.nextSeq }
  (s.updateBook b.id Book.arrive).sweep

/-- The LEAD_EDGE input is taken (R45, R47). DESIGN CHOICE (log 28): after an ADVANCE that let one permit lapse and issued
another, the edge is admitted against the new permit (R48 calls it stray and does not name a new permit). A permit whose book is not held, or holds no leaf after its arrived count,
stands in no state the part reaches; it ends (log 15). -/
def State.leadEdge (s : State) : State :=
  match s.track.permit with
  | none => s.halt .straySheet
  | some p =>
    match s.book? p.book with
    | none => (s.setTrack s.track.noPermit).sweep
    | some b =>
      match b.leaves[b.arrived]? with
      | none => (s.setTrack s.track.noPermit).sweep
      | some leaf => s.admitSheet b leaf

/-- The sheet at REG is changed. -/
def State.updateReg (s : State) (f : Sheet → Sheet) : State := s.setTrack { s.track with reg := s.track.reg.map f }

/-- The window closes with a skew count for the sheet at REG (R50). -/
def State.closeSkew (s : State) (n : Nat) : State :=
  (s.setArrival { s.arrival with window := .closed }).updateReg fun x => { x with skew := n }

/-- A front-lay edge is taken (R50). -/
def State.frontLay (s : State) (sensor : Lay) : State :=
  match s.arrival.window with
  | .closed => s
  | .waiting => s.setArrival { s.arrival with window := .counting 0 sensor }
  | .counting n opener => if sensor = opener then s else s.closeSkew n

/-- The skew window takes an encoder pulse (R50). -/
def State.skewPulse (s : State) : State :=
  match s.arrival.window with
  | .counting n opener =>
    if n + 1 < 255 then s.setArrival { s.arrival with window := .counting (n + 1) opener } else s.closeSkew 255
  | _ => s

/-- The ends a gauge report gives (R52). -/
def gaugeEdges : GaugeReport → Option Edges
  | .valid l r => if l ≤ 60000 ∧ r ≤ 60000 then some { l := l, r := r } else none
  | .noEdge => none

/-- A gauge report is taken (R52): for the sheet at REG, or discarded. -/
def State.gauge (s : State) (checkOk : Bool) (r : GaugeReport) : State :=
  if checkOk then s.updateReg fun x => { x with edges := gaugeEdges r } else s

/-- The mark a mark report gives (R56). -/
def reportedMark : MarkReport → Option Mark
  | .read leaf tag => some { leaf := leaf, tag := tag }
  | .noRead => none

/-- A mark report is taken (R56): for the sheet at REG, or discarded. -/
def State.markRead (s : State) (checkOk : Bool) (r : MarkReport) : State :=
  if checkOk then s.updateReg fun x => { x with mark := reportedMark r } else s

/-- A caliper conversion completes (R54): its result is written if its sheet still stands at REG. -/
def State.caliperDone (s : State) (um : Nat) : State :=
  match s.arrival.conversion with
  | none => s
  | some seq =>
    (s.setArrival { s.arrival with conversion := none }).updateReg
      fun x => if x.seq = seq then { x with caliper := some um } else x

end Sys2Proof.Machine
end

