-- ==== Sys2Proof/Machine/DrillStation.lean ====
section
/-! DEFINITION. The Drill Controller (07_the_drill_station.md). -/

namespace Sys2Proof.Machine

/-- The top of a 32-bit saturating count (R81, R111, R117). -/
def top32 : Nat := 4294967295

/-- A saturating count rises by 1. -/
def bump32 (n : Nat) : Nat := if n < top32 then n + 1 else n

/-- The board at the station has one more hole drilled (R120). -/
def Track.drillHole (t : Track) : Track :=
  { t with
    lane := t.lane.map fun e =>
      if e.away then { e with sheet := { e.sheet with holesDrilled := e.sheet.holesDrilled + 1 } } else e }

/-- The board's holes drilled (R125, R126). -/
def Track.boardHoles (t : Track) : Nat := (t.board?.map (·.holesDrilled)).getD 0

/-- An event that names the board: its book id and seq (R125, R126, R131). -/
def State.boardEvent (s : State) (kind : EventKind) (reason : Option Reason) (value : Nat) : Event :=
  { kind := kind, reason := reason, book := (s.drill.board.map (·.book)).getD 0
    seq := (s.drill.board.map (·.seq)).getD 0, value := value }

/-- The bit count rises by 1 and is judged for bit life (R131). -/
def State.countBit (s : State) : State :=
  let t := s.setDrill { s.drill with bitCount := bump32 s.drill.bitCount }
  if 0 < s.drill.bitLife ∧ s.drill.bitCount + 1 = s.drill.bitLife then
    t.push (t.boardEvent .bitDue none s.drill.bitLife)
  else t

/-- A hole is complete: items 1 to 3 of R120, and the same in R125 and R128. -/
def State.countHole (s : State) : State :=
  let s := s.setTrack s.track.drillHole
  (s.setDrill { s.drill with index := s.drill.index + 1, hole := .none }).countBit

/-- Holes are left to send (R120). -/
def Drill.holesLeft (d : Drill) : Bool :=
  match d.board with
  | some b => decide (d.index < b.holes.length)
  | none => false

/-- The next hole is sent, or the board is finished (R120, R126). -/
def State.nextHole (s : State) : State := if s.drill.holesLeft then s.sendHole else s.finishBoard

/-- The reason of DRILL_SUSPENDED: 0 by request, the line's halt cause by a halt (R125). -/
def State.suspendReason (s : State) (o : Origin) : Option Reason :=
  match o with
  | .request => none
  | .halt => s.line.haltCause.map HaltCause.reason

/-- The controller becomes SUSPENDED, keeping its origin (R125). -/
def State.suspendBoard (s : State) (o : Origin) : State :=
  let s := s.setDrill { s.drill with mode := .suspended o }
  s.push (s.boardEvent .drillSuspended (s.suspendReason o) s.track.boardHoles)

/-- HOLE_DONE is taken (R120, R123, R125, R128). -/
def State.holeDone (s : State) : State :=
  match s.drill.hole with
  | .running _ =>
    match s.drill.mode with
    | .drilling => s.countHole.nextHole
    | .suspendPending o => s.countHole.suspendBoard o
    | .aborting => s.countHole.finishBoard
    | _ => s
  | _ => s

/-- The step limit of the hole in progress runs out (R122). -/
def State.stepExpiry (s : State) : State :=
  match s.drill.hole with
  | .running _ =>
    let t := s.setDrill { s.drill with mode := .drilling, hole := .timedOut }
    let t :=
      match s.drill.board with
      | some b => t.spoil b.book .drillAbort 0 0
      | none => t
    t.halt .drillFault
  | _ => s

/-- The resume timer reaches 200 ms (R117, R124). -/
def State.resumeMark (s : State) : State :=
  s.setDrill { s.drill with resume := s.drill.resume.map fun _ => 200 }

/-- The resume timer is NONE or has reached 200 ms (R124). -/
def Drill.maySuspend (d : Drill) : Bool :=
  match d.resume with
  | none => true
  | some ms => decide (200 ≤ ms)

/-- The controller is DRILLING with its hole RUNNING (R124). -/
def Drill.isDrilling (d : Drill) : Bool :=
  match d.mode, d.hole with
  | .drilling, .running _ => true
  | _, _ => false

/-- DRILL_SUSPEND (R124). -/
def reqDrillSuspend (body : List Byte) (s : State) : Response :=
  if body.length ≠ 0 then s.refuse .badLength
  else if !s.drill.isDrilling then s.refuse .wrongState
  else if !s.drill.maySuspend then s.refuse .tooSoon
  else (s.setDrill { s.drill with mode := .suspendPending .request }).accept []

/-- The effect of an accepted DRILL_RESUME (R126). -/
def State.resumeBoard (s : State) : State :=
  let s := s.setDrill { s.drill with resume := some 0 }
  (s.push (s.boardEvent .drillResumed none s.track.boardHoles)).nextHole

/-- DRILL_RESUME (R126). -/
def reqDrillResume (body : List Byte) (s : State) : Response :=
  if body.length ≠ 0 then s.refuse .badLength
  else if s.drill.mode = .suspended .request ∧ s.line.mode ≠ .halted then s.resumeBoard.accept []
  else s.refuse .wrongState

/-- SET_DRILL_BIT (R132). -/
def reqSetDrillBit (body : List Byte) (s : State) : Response :=
  if body.length ≠ 2 then s.refuse .badLength
  else
    (s.setDrill { s.drill with bitLife := u16 body 0, bitCount := 0 }).accept
      (le32 s.drill.bitCount ++ le16 s.drill.bitLife)

/-- The hole list of a board's plan (R42). -/
def Sheet.holes (x : Sheet) : List Nat :=
  match x.plan with
  | some { body := .board b, .. } => b.holes
  | _ => []

/-- The step limit of the format a book names (R119). -/
def State.stepLimitOf (s : State) (book : Nat) : Nat :=
  (((s.book? book).bind fun b => s.format? b.slot).map (·.stepLimit)).getD 0

/-- The Drill Controller takes a board (R119). -/
def State.takeBoard (s : State) (x : Sheet) : State :=
  (s.setDrill { s.drill with
      mode := .drilling, index := 0, hole := .none
      board := some { seq := x.seq, book := x.book, holes := x.holes, stepLimit := s.stepLimitOf x.book } }).sendHole

end Sys2Proof.Machine
end

