-- ==== Sys2Proof/Machine/WireCloser.lean ====
section
/-! DEFINITION. Stacker, Wire Feed and Closer (08_stacking_and_wire_closing.md). -/

namespace Sys2Proof.Machine

/-- The LANE without its head (R72). -/
def Track.popLane (t : Track) : Track := { t with lane := t.lane.tail }

/-- A head sheet of a spoiled book is turned into the dump (R135, case 1). -/
def State.dumpSheet (s : State) (id : Nat) : State :=
  ((((s.setTrack s.track.popLane).updateBook id fun b => { b with dumped := b.dumped + 1 }).emit
    (.flap true)).sweep).judgeDrainEnd

/-- Step 2 of R136: an EMPTY tray becomes BUILDING for the sheet's book, and the Wire Feed is asked to start. -/
def State.openTray (s : State) (id : Nat) : State :=
  match s.tray with
  | .empty => (s.setTray (.building id)).wireStart
  | _ => s

/-- Step 3 of R136: with all its leaves stacked the book becomes STACKED, the tray COMPLETE, and the Closer judges. -/
def State.completeTray (s : State) (id : Nat) : State :=
  match s.book? id with
  | none => s
  | some b =>
    if b.stacked = b.leaves.length then
      ((s.updateBook id fun b => { b with state := .stacked }).setTray (.complete id)).judgeCloser
    else s

/-- A sheet is laid on the tray (R136); an empty track is reported to Line Control (R78). -/
def State.stackSheet (s : State) (id : Nat) : State :=
  let s := (s.setTrack s.track.popLane).updateBook id fun b => { b with stacked := b.stacked + 1 }
  ((s.openTray id).completeTray id).judgeDrainEnd

/-- The head is stacked: the tray is EMPTY, or BUILDING for the head's book (R135, case 2). -/
def Tray.takes (t : Tray) (id : Nat) : Bool :=
  match t with
  | .empty => true
  | .building book => book == id
  | .complete _ => false

/-- The Stacker judges a head of a book (R135): dumped, stacked, or it waits. -/
def State.offerHead (s : State) (id : Nat) : State :=
  match s.book? id with
  | none => s
  | some b =>
    if b.state = .spoiled then s.dumpSheet id
    else if s.tray.takes id then s.stackSheet id
    else s

/-- The lane head is handed to the Stacker at an OPEN (R72). -/
def State.handOver (s : State) : State :=
  match s.track.lane with
  | [] => s
  | e :: _ => if e.away then s else s.offerHead e.sheet.book

/-- CUT_DONE is taken (R141, R142). -/
def State.cutDone (s : State) : State :=
  match s.wire.feeder with
  | .feeding id loops (.running _) =>
    if s.isSpoiled id then s.dropCut
    else (s.setWire { s.wire with feeder := .cutReady id loops }).judgeCloser
  | _ => s

/-- The 3 000 ms of the feed timer run out (R141). -/
def State.feedExpiry (s : State) : State :=
  match s.wire.feeder with
  | .feeding id loops (.running _) =>
    (s.setWire { s.wire with feeder := .feeding id loops .timedOut }).halt .feedFault
  | _ => s

/-- The start of a waiting feeder is made again (R143, item 2). -/
def State.retryCut (s : State) : State :=
  match s.wire.feeder with
  | .waitingWire id =>
    match s.book? id with
    | some b => s.startCut b false
    | none => s
  | _ => s

/-- The most loops and hooks the counts hold (R138, R143). -/
def clampTo (top n : Nat) : Nat := if top < n then top else n

/-- The effect of an accepted SET_WIRE_SUPPLY (R143). -/
def State.supply (s : State) (spool low hooks : Nat) : State :=
  ((s.setWire { s.wire with
      spool := clampTo 1000000 spool, lowMark := clampTo 1000000 low, hooks := clampTo 9999 hooks }).retryCut).judgeCloser

/-- SET_WIRE_SUPPLY (R143). -/
def reqSetWireSupply (body : List Byte) (s : State) : Response :=
  if body.length ≠ 10 then s.refuse .badLength
  else
    let s := s.supply (u32 body 0) (u32 body 4) (u16 body 8)
    s.accept (le32 s.wire.spool ++ le32 s.wire.lowMark ++ le16 s.wire.hooks ++ [s.wire.feeder.code])

/-- CLOSE_DONE is taken (R147): BOOK_BOUND, and the record is removed (R18). -/
def State.closeDone (s : State) : State :=
  match s.closer.mode with
  | .closing id _ (.running _) =>
    let t := ((s.book? id).bind (·.tBook)).getD 0
    let s := (s.push (plainEvent .bookBound id t)).setBooks (s.books.filter fun b => !(b.id == id))
    (s.setCloser { s.closer with mode := .idle }).judgeCloser
  | _ => s

/-- The close limit runs out (R147). -/
def State.closeExpiry (s : State) : State :=
  match s.closer.mode with
  | .closing id limit (.running _) =>
    (s.setCloser { s.closer with mode := .closing id limit .timedOut }).halt .closeFault
  | _ => s

end Sys2Proof.Machine
end

