-- ==== Sys2Proof/Machine/SheetTrack.lean ====
section
/-! DEFINITION. The Sheet Track at an ADVANCE and the plan point: R64 to R70, R26, R40, R43; READ_TRACK (R80). -/

namespace Sys2Proof.Machine

/-! ### The permit and admission -/

/-- Step 1 of an ADVANCE: a standing permit lapses (R65, R66). The records are judged for removal (R19) and, while
DRAINING, the end of the drain (R153). -/
def State.lapsePermit (s : State) : State :=
  match s.track.permit with
  | none => s
  | some _ => ((s.setTrack s.track.noPermit).sweep).judgeDrainEnd

/-- A record bound for the DRILL station stands at PUNCH or NOTCH (R64, condition 5). -/
def Track.drillBound (t : Track) : Bool :=
  t.punch.any (fun x => x.route == .drill) || t.notch.any (fun x => x.route == .drill)

/-- The DRILL station is empty (R61). -/
def Track.stationEmpty (t : Track) : Bool := !(t.lane.any (·.away))

/-- The admission conditions of R64 for an expected leaf that routes DRILL or not. -/
def State.admits (s : State) (drill : Bool) : Bool :=
  s.line.mode == .running && s.track.reg.isNone
    && decide (s.track.lane.length + s.track.punch.toList.length + s.track.notch.toList.length + 1 ≤ 6)
    && (!drill || (s.track.stationEmpty && !s.track.drillBound))

/-- Step 5 of an ADVANCE: a permit is issued for the expected leaf when R64 allows (R65, R12). -/
def State.admission (s : State) : State :=
  match s.expectedLeaf with
  | none => s
  | some (b, leaf) =>
    if s.admits (s.routesDrill leaf) then
      s.setTrack { s.track with permit := some { book := b.id, leaf := b.arrived + 1 }, feedPermit := true }
    else s

/-! ### The diverter -/

/-- The level of the DIVERT_A output at a setting, raised is true (R67). -/
def Diverter.divertA : Diverter → Bool
  | .bin => false
  | .lane => true
  | .drill => false

/-- The level of the DIVERT_B output at a setting, raised is true (R67). -/
def Diverter.divertB : Diverter → Bool
  | .bin => false
  | .lane => false
  | .drill => true

/-- The DIVERT_A output: it holds with the setting until the next ADVANCE sets it again (R67). -/
def State.divertA (s : State) : Bool := s.track.diverter.divertA

/-- The DIVERT_B output (R67). -/
def State.divertB (s : State) : Bool := s.track.diverter.divertB

/-- A REJECT record leaves for the bin (R68); an empty track is reported (R78). -/
def State.departBin (s : State) (x : Sheet) : State :=
  let s := s.setTrack { s.track with notch := none, diverter := .bin }
  (((s.updateBook x.book fun b => { b with rejected := b.rejected + 1 }).push (rejectedEvent x)).sweep).judgeDrainEnd

/-- A PUNCH record joins the LANE tail (R69). -/
def State.departLane (s : State) (x : Sheet) : State :=
  s.setTrack { s.track with
    notch := none, diverter := .lane, lane := s.track.lane ++ [{ sheet := x, away := false }] }

/-- A DRILL record goes to the DRILL station with an away entry at the LANE tail (R70). -/
def State.departDrill (s : State) (x : Sheet) : State :=
  (s.setTrack { s.track with
    notch := none, diverter := .drill, lane := s.track.lane ++ [{ sheet := x, away := true }] }).takeBoard x

/-- Step 2 of an ADVANCE: the NOTCH record leaves by its route; with NOTCH empty the diverter is set to BIN (R67). -/
def State.divert (s : State) : State :=
  match s.track.notch with
  | none => s.setTrack { s.track with diverter := .bin }
  | some x =>
    match x.route with
    | .reject => s.departBin x
    | .punch => s.departLane x
    | .drill => s.departDrill x

/-! ### The moves -/

/-- The notch centre a sheet brings to NOTCH: route PUNCH with a notch in its plan (R95). -/
def Sheet.notchCentre (x : Sheet) : Option Nat :=
  match x.route, x.plan with
  | .punch, some { body := .punched p, .. } => p.notch
  | _, _ => none

/-- Step 3 of an ADVANCE: the PUNCH record moves to NOTCH, and its notch centre is sent to the positioner (R66, R95).
DESIGN CHOICE (log 26): the centre is sent here, before a plan that fails at step 4 can reject this record. -/
def State.moveToNotch (s : State) : State :=
  match s.track.punch with
  | none => s
  | some x =>
    let s := s.setTrack { s.track with punch := none, notch := some x }
    match x.notchCentre with
    | none => s
    | some c => (s.setSetpoints { s.setpoints with notch := some c }).emit (.notchCentre c)

/-- The inputs of the plan of a sheet (R26); none where the book, its format or the die record is not held, which no
plan point finds. -/
def State.planInput (s : State) (x : Sheet) : Option PlanInput :=
  match s.book? x.book, s.die.iface with
  | some b, .mounted d m =>
    match s.format? b.slot, b.leaves[x.leaf - 1]? with
    | some f, some leaf => some { sheet := x, leaf := leaf, book := b, format := f, die := d, pins := m }
    | _, _ => none
  | _, _ => none

/-- The record at PUNCH is replaced. -/
def State.setPunch (s : State) (x : Sheet) : State := s.setTrack { s.track with punch := some x }

/-- A successful plan (R40 to R42): it is held with its route, T_book is locked, the shift is sent to the carriage. -/
def State.planMade (s : State) (x : Sheet) (body : PlanBody) : State :=
  let plan : Plan := { state := .ready, body := body }
  match body with
  | .punched p =>
    let s := s.setPunch { x with plan := some plan, route := .punch }
    let s := s.updateBook x.book fun b => { b with tBook := some p.t }
    (s.setSetpoints { s.setpoints with carriage := some p.shift }).emit (.carriage p.shift)
  | .board p =>
    let s := s.setPunch { x with plan := some plan, route := .drill }
    s.updateBook x.book fun b => { b with tBook := some p.t }

/-- A failed plan (R43): route REJECT with the reason, no plan, and the book is spoiled. -/
def State.planFailed (s : State) (x : Sheet) (r : Reason) : State :=
  (s.setPunch { x with route := .reject, reason := some r, plan := none }).spoil x.book r x.seq x.leaf

/-- The plan point of the sheet now at PUNCH, unless it carries route REJECT (R26, R27). -/
def State.planPoint (s : State) (x : Sheet) : State :=
  if x.route = .reject then s
  else
    match s.planInput x with
    | none => s
    | some i =>
      match planSheet i with
      | .ok body => s.planMade x body
      | .error r => s.planFailed x r

/-- Step 4 of an ADVANCE: the REG record moves to PUNCH, the skew window closes (R51, R58), and the sheet is planned. -/
def State.moveToPunch (s : State) : State :=
  match s.track.reg with
  | none => s
  | some x =>
    let s := s.setTrack { s.track with reg := none, punch := some x }
    (s.setArrival { s.arrival with window := .closed }).planPoint x

/-- The Sheet Track at an ADVANCE: the five steps of R66. -/
def State.advanceTrack (s : State) : State :=
  s.lapsePermit.divert.moveToNotch.moveToPunch.admission

/-! ### READ_TRACK -/

/-- READ_TRACK, 8 bytes and 28 for each record (R80). -/
def reqReadTrack (body : List Byte) (s : State) : Response :=
  if body.length ≠ 0 then s.refuse .badLength
  else
    s.accept ([byte s.track.count, byte s.track.lane.length, flagByte s.track.permit.isSome]
      ++ le16 ((s.track.permit.map (·.book)).getD 0) ++ [byte ((s.track.permit.map (·.leaf)).getD 0)]
      ++ [flagByte s.track.feedPermit, s.track.diverter.code] ++ s.track.entries)

end Sys2Proof.Machine
end

