-- ==== Sys2Proof/Machine/CycleUnit.lean ====
section
/-! DEFINITION. The Cycle Unit: profiles, counting, the four cycle events and the transport handshake
(05_the_stroke_cycle.md). -/

namespace Sys2Proof.Machine

/-! ### Profiles -/

/-- A valid profile (R82). -/
def Profile.valid (p : Profile) : Bool :=
  inRange 1000 4000 p.lc && decide (1 ≤ p.pc) && decide (p.pc < p.po) && decide (p.po < p.pa)
    && decide (p.pa + 1 ≤ p.lc)

/-- A profile is staged, and active at once unless the cycle is RELEASED (R83, R84). -/
def Cycle.stage (c : Cycle) (p : Profile) : Cycle :=
  let c := { c with staged := some p }
  if c.hold = .released then c else c.activate

/-- SET_PROFILE (R83). -/
def reqSetProfile (body : List Byte) (s : State) : Response :=
  if body.length ≠ 8 then s.refuse .badLength
  else
    let p : Profile := { lc := u16 body 0, pc := u16 body 2, po := u16 body 4, pa := u16 body 6 }
    if p.valid then (s.setCycle (s.cycle.stage p)).accept [] else s.refuse .badValue

/-- The staged profile of READ_PROFILE, 0 when none is staged (R85, R177). -/
def stagedBytes : Option Profile → List Byte
  | none => List.replicate 8 0
  | some p => p.bytes

/-- READ_PROFILE, 26 bytes (R85). -/
def reqReadProfile (body : List Byte) (s : State) : Response :=
  if body.length ≠ 0 then s.refuse .badLength
  else
    s.accept (s.cycle.active.bytes ++ [flagByte s.cycle.staged.isSome] ++ stagedBytes s.cycle.staged
      ++ le16 s.cycle.count ++ [s.cycle.hold.code, flagByte s.cycle.outstanding, byte s.cycle.stroke.length]
      ++ le32 s.cycle.totalStrokes)

/-! ### CLOSE -/

/-- A null stroke (R90, R93): the chain is loaded empty, PUNCH_FIRE is not pulsed. -/
def State.nullStroke (s : State) : State := (s.setCycle { s.cycle with chain := [] }).emit (.pinLoad [])

/-- A punched stroke (R93). -/
def State.punchStroke (s : State) (x : Sheet) (pins : List Nat) : State :=
  let s := s.setPunch { x with plan := x.plan.map fun p => { p with state := .applied } }
  ((s.setCycle { s.cycle with chain := pins, stroke := pins }).emit (.pinLoad pins)).emit .punchFire

/-- A sheet fails at its CLOSE (R91, R92): null stroke, route REJECT, the plan DISCARDED, the book spoiled. -/
def State.failAtClose (s : State) (x : Sheet) (r : Reason) : State :=
  (s.nullStroke.setPunch
    { x with route := .reject, reason := some r
             plan := x.plan.map fun p => { p with state := .discarded } }).spoil x.book r x.seq x.leaf

/-- The pins to fire of a sheet that is to be punched: route PUNCH with a READY punched plan (R90). -/
def Sheet.pinsToFire (x : Sheet) : Option (List Nat) :=
  match x.route, x.plan with
  | .punch, some { state := .ready, body := .punched p } => some p.pins
  | _, _ => none

/-- Every pin of a set is ACTIVE in the pin map (R92). -/
def State.pinsActive (s : State) (pins : List Nat) : Bool := pins.all fun k => pinActive (s.pins?.getD []) k

/-- The stroke of a CLOSE on the record at PUNCH (R90 to R93). -/
def State.closePunch (s : State) (ready : Bool) : State :=
  match s.track.punch with
  | none => s.nullStroke
  | some x =>
    match x.pinsToFire with
    | none => s.nullStroke
    | some pins =>
      if !ready then s.failAtClose x .carriageLate
      else if s.pinsActive pins then s.punchStroke x pins
      else s.failAtClose x .pinUnavailable

/-- The record at NOTCH gets its notch fired (R95): notch flag set, route PUNCH, book not SPOILED. -/
def State.notchDue (s : State) : Bool :=
  match s.track.notch with
  | some x => x.notchCentre.isSome && !(s.isSpoiled x.book)
  | none => false

/-- NOTCH_FIRE is pulsed and notch done is set (R95). -/
def State.fireNotch (s : State) : State :=
  (s.setTrack { s.track with notch := s.track.notch.map fun x => { x with notchDone := true } }).emit .notchFire

/-- The CLOSE of a stroke (R90 to R95). Where a failure at PUNCH spoils the book of the sheet at NOTCH, either may be
taken first (R94, R95): the order is a free value (log 12). DESIGN CHOICE (log 29): NOTCH_FIRE stands last among the outputs
of its CLOSE, whichever is taken first; R95 gives the two no order. -/
def State.closeEvent (s : State) (ready : Bool) : State :=
  let t := s.closePunch ready
  if t.notchDue then t.fireNotch
  else if s.notchDue then
    let t := t.setDraws (t.draws + 1)
    if Config.notchFirst s.draws then t.fireNotch else t
  else t

/-! ### OPEN -/

/-- The pin reaches the threshold at this stroke: below it before the rise and equal to it after (R97). -/
def Pin.wearsOut (wornAt : Nat) (p : Pin) : Bool :=
  decide (p.count < wornAt) && decide (bump32 p.count = wornAt)

/-- One pin counts a stroke (R96); its worn flag is set when the count reaches the threshold (R97). -/
def Pin.countStroke (wornAt : Nat) (p : Pin) : Pin :=
  { p with count := bump32 p.count, worn := p.worn || p.wearsOut wornAt }

/-- The pins of the stroke record count their stroke (R96); `k` numbers the first pin of the list. -/
def countStrokes (wornAt : Nat) (stroke : List Nat) : Nat → List Pin → List Pin
  | _, [] => []
  | k, p :: l =>
    (if stroke.contains k then p.countStroke wornAt else p) :: countStrokes wornAt stroke (k + 1) l

/-- The pins that reach the threshold at this OPEN, in increasing pin number (R97). -/
def wornNow (wornAt : Nat) (stroke : List Nat) : Nat → List Pin → List Nat
  | _, [] => []
  | k, p :: l =>
    if stroke.contains k && p.wearsOut wornAt then k :: wornNow wornAt stroke (k + 1) l
    else wornNow wornAt stroke (k + 1) l

/-- PIN_WORN of a pin (R97). -/
def State.pushWorn (s : State) (k : Nat) : State := s.push (plainEvent .pinWorn 0 k)

/-- The stroke record is handed to the pin map (R96, R97). -/
def State.countStroke (s : State) : State :=
  let s := if s.cycle.stroke.isEmpty then s
    else s.setCycle { s.cycle with totalStrokes := bump32 s.cycle.totalStrokes }
  match s.die.iface with
  | .mounted d m =>
    (wornNow d.wornAt s.cycle.stroke 0 m).foldl State.pushWorn
      (s.setPins d (countStrokes d.wornAt s.cycle.stroke 0 m))
  | _ => s

/-- The OPEN of a stroke: the strokes are counted before the lane head is handed over (R86, R96, R72). -/
def State.openEvent (s : State) : State := s.countStroke.handOver

/-! ### ADVANCE and CYCLE_START -/

/-- The ADVANCE of a stroke: the transport is pulsed, then the track moves (R98, R66). -/
def State.advanceEvent (s : State) : State :=
  ((s.setCycle { s.cycle with outstanding := true }).emit .advanceOut).advanceTrack

/-- A completed CYCLE_START (R89): profile, stroke record, and the boundary of a PENDING drain (R157). -/
def State.completeCycle (s : State) : State :=
  let s := s.setCycle { s.cycle.activate with stroke := [] }
  if s.line.boundary then s.enterDraining else s

/-- A CYCLE_START: a jam while the advance is outstanding, else completed (R89, R99). -/
def State.cycleStart (s : State) : State :=
  if s.cycle.outstanding then s.halt .jam else s.completeCycle

/-- The Cycle Unit takes an encoder pulse (R86). -/
def State.countPulse (s : State) (ready : Bool) : State :=
  match s.cycle.hold with
  | .released =>
    let n := s.cycle.count + 1
    if n = s.cycle.active.lc then (s.setCycle { s.cycle with count := 0 }).cycleStart
    else
      let t := s.setCycle { s.cycle with count := n }
      if n = s.cycle.active.pc then t.closeEvent ready
      else if n = s.cycle.active.po then t.openEvent
      else if n = s.cycle.active.pa then t.advanceEvent
      else t
  | _ => s

/-- An encoder pulse: the skew window counts it in every hold state, the Cycle Unit while RELEASED (R50, R86). -/
def State.encPulse (s : State) (ready : Bool) : State := s.skewPulse.countPulse ready

/-- ADVANCE_DONE (R98). -/
def State.advanceDone (s : State) : State :=
  if s.cycle.hold = .released then s.setCycle { s.cycle with outstanding := false } else s

end Sys2Proof.Machine
end

