-- ==== Sys2Proof/Machine/FormatTable.lean ====
section
/-! DEFINITION. The Format Table: SET_FORMAT and READ_FORMAT (R22 to R25). -/

namespace Sys2Proof.Machine

/-- SET_FORMAT, the checks in the order of R24. -/
def reqSetFormat (body : List Byte) (s : State) : Response :=
  if body.length ≠ 25 then s.refuse .badLength
  else if 7 < u8 body 0 then s.refuse .badValue
  else if s.slotUses (u8 body 0) ≠ 0 then s.refuse .inUse
  else
    match readFormatRecord body 1 with
    | none => s.refuse .badValue
    | some f =>
      if f.consistent then (s.setFormats (s.formats.set (u8 body 0) (some f))).accept [] else s.refuse .badValue

/-- READ_FORMAT (R25). -/
def reqReadFormat (body : List Byte) (s : State) : Response :=
  if body.length ≠ 1 then s.refuse .badLength
  else if 7 < u8 body 0 then s.refuse .badValue
  else
    match s.format? (u8 body 0) with
    | none => s.refuse .notFound
    | some f => s.accept ([byte (u8 body 0), byte (s.slotUses (u8 body 0))] ++ f.bytes)

end Sys2Proof.Machine
end

