-- ==== Sys2Proof/Machine/LineControl.lean ====
section
/-! DEFINITION. Line Control: IDENTIFY, READ_STATUS, RUN, DRAIN, STOP, RESTART, SET_WATCH, READ_EVENTS and the
line-silence watch (09_line_states_notices_and_restarts.md). -/

namespace Sys2Proof.Machine

/-- IDENTIFY (R160): family 0x0F, part 0x04, revision 2. -/
def reqIdentify (body : List Byte) (s : State) : Response :=
  if body.length ≠ 0 then s.refuse .badLength
  else s.accept [0x0F, 0x04, 2, s.line.startCause.code, flagByte s.die?.isSome, byte s.link.errors]

/-- The halt cause as READ_STATUS gives it: its reason code, 0 for NONE (R160, R176). -/
def haltCauseCode (c : Option HaltCause) : Byte := reasonCode (c.map HaltCause.reason)

/-- The hole in progress has timed out (R117, R160). -/
def Hole.isTimedOut : Hole → Bool
  | .timedOut => true
  | _ => false

/-- The READ_STATUS reply, 31 bytes (R160). -/
def State.statusBytes (s : State) : List Byte :=
  [byte s.line.mode.code, haltCauseCode s.line.haltCause] ++ le16 s.line.watchPeriod
    ++ [s.line.watchMode.code, s.line.watchTimer.code, flagByte s.line.boundary]
    ++ le16 s.cycle.count ++ [s.cycle.hold.code] ++ le16 s.cycle.active.lc ++ [flagByte s.cycle.staged.isSome]
    ++ le32 s.cycle.totalStrokes ++ [byte s.books.length, byte s.track.count, byte s.track.lane.length]
    ++ le16 (s.tray.book?.getD 0) ++ [s.drill.mode.code, flagByte s.drill.hole.isTimedOut, s.wire.feeder.code]
    ++ le32 s.wire.spool ++ le16 s.wire.hooks

/-- READ_STATUS (R160). -/
def reqReadStatus (body : List Byte) (s : State) : Response :=
  if body.length ≠ 0 then s.refuse .badLength else s.accept s.statusBytes

/-- The watch timer starts with the full period when the period is above 0, and stops when it is 0 (R151, R156). -/
def Line.startWatch (l : Line) : Line :=
  { l with watchTimer := if 0 < l.watchPeriod then .running l.watchPeriod else .stopped }

/-- The effect of RUN in READY (R151, R87): the line runs, the cycle is released, the watch timer starts. -/
def State.startRun (s : State) : State :=
  let s := (s.lineTo .running).setCycle { s.cycle with hold := .released }
  s.setLine s.line.startWatch

/-- RUN (R151). -/
def reqRun (body : List Byte) (s : State) : Response :=
  if body.length ≠ 0 then s.refuse .badLength
  else if s.line.mode ≠ .ready then s.refuse .wrongState
  else s.startRun.accept []

/-- DRAIN (R152). -/
def reqDrain (body : List Byte) (s : State) : Response :=
  if body.length ≠ 0 then s.refuse .badLength
  else if s.line.mode ≠ .running then s.refuse .wrongState
  else s.enterDraining.accept []

/-- The close of a book has run out its limit (R147). -/
def CloserMode.timedOutFor (c : CloserMode) (id : Nat) : Bool :=
  match c with
  | .closing book _ .timedOut => book == id
  | _ => false

/-- The books STOP spoils with PURGED, in queue order: FEEDING, FED and STACKED ones, and a CLOSING one whose close has
run out its limit (R20). -/
def State.purged (s : State) : List Nat :=
  (s.books.filter fun b =>
    b.state == .feeding || b.state == .fed || b.state == .stacked
      || (b.state == .closing && s.closer.mode.timedOutFor b.id)).map (·.id)

/-- A timed-out close is given up, a running one runs on (R148); no hook wait outlives the tray (R146). -/
def Closer.stopped (c : Closer) : Closer :=
  match c.mode with
  | .closing _ _ .timedOut => { mode := .idle, hookWait := false }
  | _ => { c with hookWait := false }

/-- The track after STOP (R61, R79). -/
def Track.cleared : Track :=
  { reg := none, punch := none, notch := none, lane := [], permit := none, feedPermit := false, diverter := .bin }

/-- What STOP sets in the blocks before the spoils of its purge (R155, R44, R79, R87, R130, R148). -/
def State.stopBlocks (s : State) : State :=
  let s := s.stopWatch
  let s := (s.setLine { s.line with haltCause := none }).holdClear
  let s := (s.setTrack Track.cleared).setArrival { s.arrival with window := .closed, conversion := none }
  let s := s.setDrill { s.drill.toIdle with resume := none }
  s.setWire { s.wire with feeder := .idle }

/-- The line state STOP leads to (R155). -/
def State.restMode (s : State) : Mode := if s.die?.isSome then .ready else .noDie

/-- STOP's purge, one step (R155, log 18): the spoils in queue order of the books, each with its BOOK_SPOILED; the tray
of a spoiled tray book is dumped by the spoil (R137). LINE_STATE comes last, when the state changed. -/
def State.stopLine (s : State) : State :=
  let t := s.purged.foldl (fun t id => t.spoil id .purged 0 0) (s.stopBlocks.setCloser s.closer.stopped)
  (t.setTray .empty).sweep.lineTo s.restMode

/-- STOP (R155). -/
def reqStop (body : List Byte) (s : State) : Response :=
  if body.length ≠ 0 then s.refuse .badLength else s.stopLine.accept []

/-- RESTART (R161): OK; the part restarts when the last byte of that reply is sent (`State.replySent`). -/
def reqRestart (body : List Byte) (s : State) : Response :=
  if body.length ≠ 0 then s.refuse .badLength else s.accept []

/-- The watch period as held (R156). -/
def clampPeriod (ms : Nat) : Nat := if ms = 0 then 0 else if ms < 100 then 100 else if 10000 < ms then 10000 else ms

/-- The effect of an accepted SET_WATCH (R156): in RUNNING the timer restarts with the new period. -/
def Line.setWatch (l : Line) (ms : Nat) (m : WatchMode) : Line :=
  let l := { l with watchPeriod := clampPeriod ms, watchMode := m }
  if l.mode = .running then l.startWatch else l

/-- SET_WATCH (R156). -/
def reqSetWatch (body : List Byte) (s : State) : Response :=
  if body.length ≠ 3 then s.refuse .badLength
  else
    match WatchMode.ofCode (u8 body 2) with
    | none => s.refuse .badValue
    | some m =>
      (s.setLine (s.line.setWatch (u16 body 0) m)).accept (le16 (clampPeriod (u16 body 0)) ++ [m.code])

/-- The entries READ_EVENTS leaves, and ATTN released when none is left (R158, R159). -/
def Notices.drop (n : Notices) (max : Nat) : Notices :=
  { queue := n.queue.drop max, attn := if (n.queue.drop max).isEmpty then false else n.attn }

/-- READ_EVENTS (R159). -/
def reqReadEvents (body : List Byte) (s : State) : Response :=
  if body.length ≠ 1 then s.refuse .badLength
  else if inRange 1 32 (u8 body 0) then
    let read := s.notices.queue.take (u8 body 0)
    (s.setNotices (s.notices.drop (u8 body 0))).accept (byte read.length :: (read.map Event.bytes).flatten)
  else s.refuse .badValue

/-- A good frame restarts a running watch with the full period (R156, R167). -/
def Line.goodFrame (l : Line) : Line :=
  match l.mode, l.watchTimer with
  | .running, .running _ => { l with watchTimer := .running l.watchPeriod }
  | _, _ => l

/-- The watch timer runs out (R157). A timer that is STOPPED does not (log 5). -/
def State.watchExpiry (s : State) : State :=
  match s.line.watchTimer with
  | .stopped => s
  | .running _ =>
    let s := (s.setLine { s.line with watchTimer := .stopped }).push (plainEvent .watchExpired 0 s.line.watchPeriod)
    match s.line.watchMode with
    | .atOnce => (s.setTrack { s.track with feedPermit := false }).enterDraining
    | .atBoundary => s.setLine { s.line with boundary := true }

end Sys2Proof.Machine
end

