-- ==== Sys2Proof/Machine/LinkPort.lean ====
section
/-! DEFINITION. The Link Port: receiver, link errors, answering side, replies and READ_LINK_ERRORS
(10_the_message_link.md), and the restarts (R161). -/

namespace Sys2Proof.Machine

/-! ### Frames on the wire -/

/-- The bytes of a frame around its covered bytes: start byte, length, content, check code (R164, R165). -/
def frameBytes (content : List Byte) : List Byte :=
  let covered := le16 content.length ++ content
  0xC3 :: (covered ++ le16 (crc covered).toNat)

/-- A request frame as the host sends it. -/
def Frame.bytes (f : Frame) : List Byte := frameBytes (f.kind :: f.tag :: f.body)

/-- A reply as the part sends it (R173). -/
def Reply.bytes (r : Reply) : List Byte :=
  frameBytes ([r.kind, r.tag, r.status.code, byte r.eventCount, byte r.mode.code] ++ r.body)

/-! ### Link errors -/

/-- An error is counted (R170). -/
def Link.countError (l : Link) (e : LinkError) : Link :=
  { l with errors := if l.errors < 255 then l.errors + 1 else l.errors
           firstError := match l.firstError with | none => some e | some x => some x }

/-- READ_LINK_ERRORS (R174, R175). -/
def reqReadLinkErrors (body : List Byte) (s : State) : Response :=
  if body.length ≠ 1 then s.refuse .badLength
  else
    let reply := [byte s.link.errors, firstErrorCode s.link.firstError]
    match flagOfCode (u8 body 0) with
    | none => s.refuse .badValue
    | some false => s.accept reply
    | some true => (s.setLink { s.link with errors := 0, firstError := none }).accept reply

/-! ### Dispatch and reply -/

/-- The owner of a known request judges it and carries it out (R172). -/
def ownerAnswer (r : RequestKind) (body : List Byte) (s : State) : Response :=
  match r with
  | .identify => reqIdentify body s
  | .readStatus => reqReadStatus body s
  | .run => reqRun body s
  | .drain => reqDrain body s
  | .stop => reqStop body s
  | .restart => reqRestart body s
  | .setFormat => reqSetFormat body s
  | .readFormat => reqReadFormat body s
  | .queueBook => reqQueueBook body s
  | .cancelBook => reqCancelBook body s
  | .readBook => reqReadBook body s
  | .readTrack => reqReadTrack body s
  | .setProfile => reqSetProfile body s
  | .readProfile => reqReadProfile body s
  | .withdrawPin => reqWithdrawPin body s
  | .restorePin => reqRestorePin body s
  | .readPins => reqReadPins body s
  | .presetPinCounts => reqPresetPinCounts body s
  | .readDie => reqReadDie body s
  | .drillSuspend => reqDrillSuspend body s
  | .drillResume => reqDrillResume body s
  | .setDrillBit => reqSetDrillBit body s
  | .setWireSupply => reqSetWireSupply body s
  | .setWatch => reqSetWatch body s
  | .readEvents => reqReadEvents body s
  | .readLinkErrors => reqReadLinkErrors body s

/-- The answer to a frame: an unknown kind is refused (R172). -/
def answer (f : Frame) (s : State) : Response :=
  match kindOf f.kind with
  | none => s.refuse .unknownKind
  | some r => ownerAnswer r f.body s

/-- The kind of a reply (R173). -/
def replyKind (k : Byte) : Byte := if k.toNat < 128 then k + 0x80 else k

/-- The reply to a frame, from its response (R173). -/
def replyTo (f : Frame) (r : Response) : Reply :=
  { kind := replyKind f.kind, tag := f.tag, status := r.status, eventCount := r.st.notices.queue.length
    mode := r.st.line.mode, body := r.body }

/-- The reply's transmission begins (R173). -/
def State.send (s : State) (r : Reply) : State :=
  s.setLink { s.link with answering := .sending r r.bytes.length }

/-- A frame is dispatched: its request is taken whole, and the reply formed in the same step (R172, R173). -/
def State.dispatch (s : State) (f : Frame) : State :=
  let r := answer f s
  r.st.send (replyTo f r)

/-- A good frame is handed to the answering side (R171). -/
def State.handFrame (s : State) (f : Frame) : State :=
  match s.link.answering with
  | .idle => s.dispatch f
  | .sending _ _ =>
    match s.link.slot with
    | none => s.setLink { s.link with slot := some f }
    | some _ => s.setLink (s.link.countError .overrun)

/-- A good frame: a running watch restarts, and the frame goes to the answering side (R167, R156, R171). -/
def State.goodFrame (s : State) (f : Frame) : State := (s.setLine s.line.goodFrame).handFrame f

/-! ### Restarts -/

/-- The link rate the straps give (R163). -/
def rateOf (x : Straps) : Rate :=
  match x.rate1, x.rate0 with
  | false, false => .baud57600
  | false, true => .baud115200
  | true, false => .baud230400
  | true, true => .baud460800

/-- The part at its restart values, RESET_N held low or not (R161): those of State.reset with the start cause, the link rate
and the level of the die contact given. The chain is empty, and nothing is driven yet: the load comes when the restart
completes (log 27). The waiting commands and the count of draws are the model's own and stay. -/
def State.restartValues (s : State) (cause : StartCause) (rate : Rate) (contact low : Bool) : State :=
  { State.reset with
    pending := s.pending, draws := s.draws, resetLow := low
    link := { State.reset.link with rate := rate }
    line := { State.reset.line with startCause := cause }
    die := { State.reset.die with contact := contact } }

/-- A completed restart (R161): the straps are read, the hold with clear of a restart loads the pin chain empty (R87; at
this moment of the restart, log 27), and a closed contact is taken as a closing (R101). -/
def State.restart (s : State) (cause : StartCause) (straps : Straps) (contact : Bool) : State :=
  let t := (s.restartValues cause (rateOf straps) contact false).emit (.pinLoad [])
  if contact then t.contactCloses else t

/-- The reply of an accepted RESTART (R161). -/
def Reply.isRestart (r : Reply) : Bool := r.kind == replyKind (kindByte .restart) && r.status == .ok

/-- The last byte of a reply is sent (R171, R161, R173). -/
def State.replySent (s : State) (straps : Straps) : State :=
  match s.link.answering with
  | .idle => s
  | .sending r _ =>
    if r.isRestart then s.restart .restartRequest straps s.die.contact
    else
      match s.link.slot with
      | none => s.setLink { s.link with answering := .idle }
      | some f => (s.setLink { s.link with slot := none, answering := .idle }).dispatch f

/-! ### The receiver -/

/-- The receiver drops what it holds, counts an error and goes to a state. -/
def Link.dropFrame (l : Link) (e : LinkError) (r : Receiver) : Link := { l.countError e with receiver := r }

/-- The frame of assembled bytes: length (2), kind, tag, body, check code (2) (R164). -/
def assembled (bytes : List Byte) : Frame :=
  { kind := bytes.getD 2 0, tag := bytes.getD 3 0, body := (bytes.drop 4).take (u16 bytes 0 - 2) }

/-- The check code received agrees with the CRC of the covered bytes (R165). -/
def checkAgrees (bytes : List Byte) : Bool :=
  let n := u16 bytes 0 + 2
  (crc (bytes.take n)).toNat == u16 bytes n

/-- A byte in HUNT (R166). -/
def Link.huntByte (l : Link) (b : Byte) : Link :=
  if b = 0xC3 then { l with receiver := .inFrame [], noiseOpen := false }
  else if l.noiseOpen then l
  else { l.countError .noise with noiseOpen := true }

/-- The assembly after one more byte, judged at the second length byte and at the last check code byte (R167). -/
def State.frameByte (s : State) (bytes : List Byte) : State :=
  if bytes.length < 2 then s.setLink { s.link with receiver := .inFrame bytes }
  else if bytes.length = 2 then
    if inRange 2 512 (u16 bytes 0) then s.setLink { s.link with receiver := .inFrame bytes }
    else s.setLink (s.link.dropFrame .badLength .discard)
  else if bytes.length < u16 bytes 0 + 4 then s.setLink { s.link with receiver := .inFrame bytes }
  else if checkAgrees bytes then (s.setLink { s.link with receiver := .hunt }).goodFrame (assembled bytes)
  else s.setLink (s.link.dropFrame .crc .hunt)

/-- A byte is taken by the receiver; every byte restarts the silence timer (R166 to R169). -/
def State.rxByte (s : State) (b : Byte) : State :=
  let s := s.setLink { s.link with silence := .running 0 }
  match s.link.receiver with
  | .hunt => s.setLink (s.link.huntByte b)
  | .inFrame bytes => s.frameByte (bytes ++ [b])
  | .discard => s

/-- A framing error (R169). -/
def State.framingError (s : State) : State :=
  let s := s.setLink { s.link with silence := .running 0 }
  match s.link.receiver with
  | .hunt => s.setLink { s.link.dropFrame .framing .discard with noiseOpen := false }
  | .inFrame _ => s.setLink (s.link.dropFrame .framing .discard)
  | .discard => s

/-- The silence timer expires (R168). A timer that is STOPPED does not (log 5). -/
def State.silenceExpiry (s : State) : State :=
  match s.link.silence with
  | .stopped => s
  | .running _ =>
    let s := s.setLink { s.link with silence := .stopped }
    match s.link.receiver with
    | .hunt => s
    | .inFrame _ => s.setLink (s.link.dropFrame .truncated .hunt)
    | .discard => s.setLink { s.link with receiver := .hunt }

end Sys2Proof.Machine
end

