-- ==== Sys2Proof/Machine/Requests.lean ====
section
/-! DEFINITION. The meanings of the host requests. A request command is its whole frame found good (log 1): it is taken
as R167 and R171 say, and dispatched at once when the answering side is IDLE. -/

namespace Sys2Proof.Machine

/-- The outcome of a step of the part. -/
abbrev Result := Host.Outcome State Fault Refusal

/-- A command the part takes: nothing drives the outputs yet (log 10). While RESET_N is held low the part takes nothing
and drives nothing (R161, R162, log 2). -/
def State.live (s : State) (f : State → State) : Result :=
  .next (if s.resetLow then s.setOut [] else f (s.setOut []))

/-- A request of a kind arrives as a good frame (R167, R171). -/
def State.request (s : State) (kind tag : Byte) (body : List Byte) : Result :=
  s.live fun t => t.goodFrame { kind := kind, tag := tag, body := body }

/-- IDENTIFY (R160). -/
def execIdentify (tag : Byte) (body : List Byte) (s : State) : Result :=
  s.request (kindByte .identify) tag body

/-- READ_STATUS (R160). -/
def execReadStatus (tag : Byte) (body : List Byte) (s : State) : Result :=
  s.request (kindByte .readStatus) tag body

/-- RUN (R151). -/
def execRun (tag : Byte) (body : List Byte) (s : State) : Result :=
  s.request (kindByte .run) tag body

/-- DRAIN (R152). -/
def execDrain (tag : Byte) (body : List Byte) (s : State) : Result :=
  s.request (kindByte .drain) tag body

/-- STOP (R155). -/
def execStop (tag : Byte) (body : List Byte) (s : State) : Result :=
  s.request (kindByte .stop) tag body

/-- RESTART (R161). -/
def execRestart (tag : Byte) (body : List Byte) (s : State) : Result :=
  s.request (kindByte .restart) tag body

/-- SET_FORMAT (R24). -/
def execSetFormat (tag : Byte) (body : List Byte) (s : State) : Result :=
  s.request (kindByte .setFormat) tag body

/-- READ_FORMAT (R25). -/
def execReadFormat (tag : Byte) (body : List Byte) (s : State) : Result :=
  s.request (kindByte .readFormat) tag body

/-- QUEUE_BOOK (R6). -/
def execQueueBook (tag : Byte) (body : List Byte) (s : State) : Result :=
  s.request (kindByte .queueBook) tag body

/-- CANCEL_BOOK (R14). -/
def execCancelBook (tag : Byte) (body : List Byte) (s : State) : Result :=
  s.request (kindByte .cancelBook) tag body

/-- READ_BOOK (R9). -/
def execReadBook (tag : Byte) (body : List Byte) (s : State) : Result :=
  s.request (kindByte .readBook) tag body

/-- READ_TRACK (R80). -/
def execReadTrack (tag : Byte) (body : List Byte) (s : State) : Result :=
  s.request (kindByte .readTrack) tag body

/-- SET_PROFILE (R83). -/
def execSetProfile (tag : Byte) (body : List Byte) (s : State) : Result :=
  s.request (kindByte .setProfile) tag body

/-- READ_PROFILE (R85). -/
def execReadProfile (tag : Byte) (body : List Byte) (s : State) : Result :=
  s.request (kindByte .readProfile) tag body

/-- WITHDRAW_PIN (R112). -/
def execWithdrawPin (tag : Byte) (body : List Byte) (s : State) : Result :=
  s.request (kindByte .withdrawPin) tag body

/-- RESTORE_PIN (R113). -/
def execRestorePin (tag : Byte) (body : List Byte) (s : State) : Result :=
  s.request (kindByte .restorePin) tag body

/-- READ_PINS (R115). -/
def execReadPins (tag : Byte) (body : List Byte) (s : State) : Result :=
  s.request (kindByte .readPins) tag body

/-- PRESET_PIN_COUNTS (R114). -/
def execPresetPinCounts (tag : Byte) (body : List Byte) (s : State) : Result :=
  s.request (kindByte .presetPinCounts) tag body

/-- READ_DIE (R116). -/
def execReadDie (tag : Byte) (body : List Byte) (s : State) : Result :=
  s.request (kindByte .readDie) tag body

/-- DRILL_SUSPEND (R124). -/
def execDrillSuspend (tag : Byte) (body : List Byte) (s : State) : Result :=
  s.request (kindByte .drillSuspend) tag body

/-- DRILL_RESUME (R126). -/
def execDrillResume (tag : Byte) (body : List Byte) (s : State) : Result :=
  s.request (kindByte .drillResume) tag body

/-- SET_DRILL_BIT (R132). -/
def execSetDrillBit (tag : Byte) (body : List Byte) (s : State) : Result :=
  s.request (kindByte .setDrillBit) tag body

/-- SET_WIRE_SUPPLY (R143). -/
def execSetWireSupply (tag : Byte) (body : List Byte) (s : State) : Result :=
  s.request (kindByte .setWireSupply) tag body

/-- SET_WATCH (R156). -/
def execSetWatch (tag : Byte) (body : List Byte) (s : State) : Result :=
  s.request (kindByte .setWatch) tag body

/-- READ_EVENTS (R159). -/
def execReadEvents (tag : Byte) (body : List Byte) (s : State) : Result :=
  s.request (kindByte .readEvents) tag body

/-- READ_LINK_ERRORS (R174). -/
def execReadLinkErrors (tag : Byte) (body : List Byte) (s : State) : Result :=
  s.request (kindByte .readLinkErrors) tag body

/-- A good frame of another kind (R172). -/
def execUnknownKind (kind tag : Byte) (body : List Byte) (s : State) : Result := s.request kind tag body

end Sys2Proof.Machine
end

