-- ==== Sys2Proof/Machine/Events.lean ====
section
/-! DEFINITION. The meanings of the commands that are no host request: restarts, the serial line, the line's signals
and the part's own timers. -/

namespace Sys2Proof.Machine

/-! ### Restarts (R161) -/

/-- Power-on. With RESET_N held low the part stays at its restart values until it rises (R161). -/
def execPowerOn (straps : Straps) (contact low : Bool) (s : State) : Result :=
  .next (if low then s.restartValues .powerOn (rateOf straps) contact true
    else s.restart .powerOn straps contact)

/-- RESET_N falls: the part is held at its restart values (R161). A pin that is low already does not fall. -/
def execResetN (s : State) : Result :=
  .next (if s.resetLow then s.setOut [] else s.restartValues .resetPin s.link.rate s.die.contact true)

/-- RESET_N rises: the restart completes with the start cause recorded when it began (R161). A pin that is high already
does not rise. -/
def execResetNRelease (straps : Straps) (s : State) : Result :=
  .next (if s.resetLow then s.restart s.line.startCause straps s.die.contact else s.setOut [])

/-! ### The serial line (R162 to R173) -/

/-- RX_BYTE (R166 to R168). -/
def execRxByte (b : Byte) (s : State) : Result := s.live fun t => t.rxByte b

/-- FRAMING_ERROR (R169). -/
def execFramingError (s : State) : Result := s.live State.framingError

/-- SILENCE_TIMER_EXPIRY (R168). -/
def execSilenceTimerExpiry (s : State) : Result := s.live State.silenceExpiry

/-- REPLY_SENT (R171). -/
def execReplySent (straps : Straps) (s : State) : Result := s.live fun t => t.replySent straps

/-! ### The main drive, the table and the transport -/

/-- ENC_PULSE (R86, R50). -/
def execEncPulse (ready : Bool) (s : State) : Result := s.live fun t => t.encPulse ready

/-- LEAD_EDGE (R45, R47). -/
def execLeadEdge (s : State) : Result := s.live State.leadEdge

/-- FRONT_LAY_EDGE (R50). -/
def execFrontLayEdge (sensor : Lay) (s : State) : Result := s.live fun t => t.frontLay sensor

/-- GAUGE_REPORT (R52). -/
def execGaugeReport (checkOk : Bool) (report : GaugeReport) (s : State) : Result :=
  s.live fun t => t.gauge checkOk report

/-- MARK_REPORT (R56). -/
def execMarkReport (checkOk : Bool) (report : MarkReport) (s : State) : Result :=
  s.live fun t => t.markRead checkOk report

/-- CALIPER_CONVERSION_COMPLETE (R54). -/
def execCaliperConversionComplete (um : Nat) (s : State) : Result := s.live fun t => t.caliperDone um

/-- ADVANCE_DONE (R98). -/
def execAdvanceDone (s : State) : Result := s.live State.advanceDone

/-! ### The drill station -/

/-- HOLE_DONE (R120, R123, R125, R128). -/
def execHoleDone (s : State) : Result := s.live State.holeDone

/-- DRILL_STEP_LIMIT_EXPIRY (R122). -/
def execDrillStepLimitExpiry (s : State) : Result := s.live State.stepExpiry

/-- RESUME_TIMER_MARK (R124). -/
def execResumeTimerMark (s : State) : Result := s.live State.resumeMark

/-! ### Wire and closer -/

/-- CUT_DONE (R141, R142). -/
def execCutDone (s : State) : Result := s.live State.cutDone

/-- FEED_TIMER_EXPIRY (R141). -/
def execFeedTimerExpiry (s : State) : Result := s.live State.feedExpiry

/-- CLOSE_DONE (R147). -/
def execCloseDone (s : State) : Result := s.live State.closeDone

/-- CLOSE_LIMIT_EXPIRY (R147). -/
def execCloseLimitExpiry (s : State) : Result := s.live State.closeExpiry

/-! ### The die -/

/-- The level of the contact alone, all that changes while RESET_N is low (log 2, log 8). -/
def State.setContact (s : State) (closed : Bool) : State := (s.setOut []).setDie { s.die with contact := closed }

/-- DIE_PRESENT_CLOSES (R101). -/
def execDiePresentCloses (s : State) : Result :=
  if s.resetLow then .next (s.setContact true) else s.live State.contactCloses

/-- DIE_PRESENT_OPENS (R101, R110). -/
def execDiePresentOpens (s : State) : Result :=
  if s.resetLow then .next (s.setContact false) else s.live State.contactOpens

/-- DESCRIPTOR_READ_COMPLETE (R103, R108, R109). -/
def execDescriptorReadComplete (fetched : List Byte) (s : State) : Result := s.live fun t => t.readComplete fetched

/-! ### The line-silence watch -/

/-- WATCH_TIMER_EXPIRY (R157). -/
def execWatchTimerExpiry (s : State) : Result := s.live State.watchExpiry

end Sys2Proof.Machine
end

