-- ==== Sys2Proof/Machine/Dispatch.lean ====
section
/-! DEFINITION. Which meaning each command has: one arm per constructor of Instr, in the order of the table. -/

namespace Sys2Proof.Machine

def exec (i : Instr) (s : State) : Host.Outcome State Fault Refusal :=
  match i with
  | .identify tag body => Sys2Proof.Machine.execIdentify tag body s
  | .readStatus tag body => Sys2Proof.Machine.execReadStatus tag body s
  | .run tag body => Sys2Proof.Machine.execRun tag body s
  | .drain tag body => Sys2Proof.Machine.execDrain tag body s
  | .stop tag body => Sys2Proof.Machine.execStop tag body s
  | .restart tag body => Sys2Proof.Machine.execRestart tag body s
  | .setFormat tag body => Sys2Proof.Machine.execSetFormat tag body s
  | .readFormat tag body => Sys2Proof.Machine.execReadFormat tag body s
  | .queueBook tag body => Sys2Proof.Machine.execQueueBook tag body s
  | .cancelBook tag body => Sys2Proof.Machine.execCancelBook tag body s
  | .readBook tag body => Sys2Proof.Machine.execReadBook tag body s
  | .readTrack tag body => Sys2Proof.Machine.execReadTrack tag body s
  | .setProfile tag body => Sys2Proof.Machine.execSetProfile tag body s
  | .readProfile tag body => Sys2Proof.Machine.execReadProfile tag body s
  | .withdrawPin tag body => Sys2Proof.Machine.execWithdrawPin tag body s
  | .restorePin tag body => Sys2Proof.Machine.execRestorePin tag body s
  | .readPins tag body => Sys2Proof.Machine.execReadPins tag body s
  | .presetPinCounts tag body => Sys2Proof.Machine.execPresetPinCounts tag body s
  | .readDie tag body => Sys2Proof.Machine.execReadDie tag body s
  | .drillSuspend tag body => Sys2Proof.Machine.execDrillSuspend tag body s
  | .drillResume tag body => Sys2Proof.Machine.execDrillResume tag body s
  | .setDrillBit tag body => Sys2Proof.Machine.execSetDrillBit tag body s
  | .setWireSupply tag body => Sys2Proof.Machine.execSetWireSupply tag body s
  | .setWatch tag body => Sys2Proof.Machine.execSetWatch tag body s
  | .readEvents tag body => Sys2Proof.Machine.execReadEvents tag body s
  | .readLinkErrors tag body => Sys2Proof.Machine.execReadLinkErrors tag body s
  | .unknownKind kind tag body => Sys2Proof.Machine.execUnknownKind kind tag body s
  | .powerOn straps contact low => Sys2Proof.Machine.execPowerOn straps contact low s
  | .resetN => Sys2Proof.Machine.execResetN s
  | .rxByte b => Sys2Proof.Machine.execRxByte b s
  | .framingError => Sys2Proof.Machine.execFramingError s
  | .silenceTimerExpiry => Sys2Proof.Machine.execSilenceTimerExpiry s
  | .replySent straps => Sys2Proof.Machine.execReplySent straps s
  | .encPulse ready => Sys2Proof.Machine.execEncPulse ready s
  | .leadEdge => Sys2Proof.Machine.execLeadEdge s
  | .frontLayEdge sensor => Sys2Proof.Machine.execFrontLayEdge sensor s
  | .gaugeReport checkOk report => Sys2Proof.Machine.execGaugeReport checkOk report s
  | .markReport checkOk report => Sys2Proof.Machine.execMarkReport checkOk report s
  | .caliperConversionComplete um => Sys2Proof.Machine.execCaliperConversionComplete um s
  | .advanceDone => Sys2Proof.Machine.execAdvanceDone s
  | .holeDone => Sys2Proof.Machine.execHoleDone s
  | .drillStepLimitExpiry => Sys2Proof.Machine.execDrillStepLimitExpiry s
  | .resumeTimerMark => Sys2Proof.Machine.execResumeTimerMark s
  | .cutDone => Sys2Proof.Machine.execCutDone s
  | .feedTimerExpiry => Sys2Proof.Machine.execFeedTimerExpiry s
  | .closeDone => Sys2Proof.Machine.execCloseDone s
  | .closeLimitExpiry => Sys2Proof.Machine.execCloseLimitExpiry s
  | .diePresentCloses => Sys2Proof.Machine.execDiePresentCloses s
  | .diePresentOpens => Sys2Proof.Machine.execDiePresentOpens s
  | .descriptorReadComplete fetched => Sys2Proof.Machine.execDescriptorReadComplete fetched s
  | .watchTimerExpiry => Sys2Proof.Machine.execWatchTimerExpiry s
  | .resetNRelease straps => Sys2Proof.Machine.execResetNRelease straps s

end Sys2Proof.Machine
end

