-- ==== Sys2Proof/Safety.lean ====
section
/-! DEFINITION. What counts as a safe state: the laws of the part, as far as one state shows them, and the agreements
between blocks that the state tables of the manual imply. -/

namespace Sys2Proof.Safety

open Sys2Proof.Machine

/-- Law 1 with the reservation it rests on (R62, R64): the reserved sum is at most 6, and while a permit stands REG is
empty and one place is kept free for the sheet it will admit. -/
abbrev TrackReserved (s : State) : Prop :=
  s.track.reserved ≤ 6 ∧ (s.track.permit.isSome = true → s.track.reg = none ∧ s.track.reserved ≤ 5)

/-- Law 3 (R3): at most 16 book records, no two with the same book id, and no id is 0. -/
abbrev BooksDistinct (s : State) : Prop :=
  s.books.length ≤ 16 ∧ (s.books.map (·.id)).Nodup ∧ ∀ b ∈ s.books, b.id ≠ 0

/-- Law 8 (R158): at most 32 entries, and ATTN is asserted exactly when there is one. -/
abbrev NoticesKept (s : State) : Prop :=
  s.notices.queue.length ≤ 32 ∧ (s.notices.attn = true ↔ s.notices.queue ≠ [])

/-- Law 9 (R170): the link error count is at most 255, and the first-error code is NONE exactly when it is 0. -/
abbrev LinkErrorsKept (s : State) : Prop :=
  s.link.errors ≤ 255 ∧ (s.link.firstError = none ↔ s.link.errors = 0)

/-- A SPOILED record goes as soon as the five conditions of R19 hold: none that meets them is held. -/
abbrev SpoiledRemoved (s : State) : Prop := ∀ b ∈ s.books, s.removable b = false

/-- The sheet records of a book in the track. -/
def inTrack (s : State) (id : Nat) : Nat := s.track.sheets.countP fun x => x.book == id

/-- Law 4 (R4), with what carries it: each arrived sheet is in the track or counted at most once in rejected, stacked
and dumped together; every sheet record in the track is of a held book; a QUEUED book has no arrived leaf; a complete
tray book and the book being closed are held with all their leaves stacked, and are not the same book. -/
abbrev SheetsAccounted (s : State) : Prop :=
  BooksDistinct s
  ∧ (∀ b ∈ s.books, inTrack s b.id + b.stacked + b.dumped + b.rejected ≤ b.arrived
      ∧ b.arrived ≤ b.leaves.length ∧ 2 ≤ b.leaves.length ∧ (b.state = .queued → b.arrived = 0))
  ∧ (∀ x ∈ s.track.sheets, ∃ b ∈ s.books, b.id = x.book)
  ∧ (∀ id, s.tray = .complete id → ∃ b ∈ s.books, b.id = id ∧ b.stacked = b.leaves.length)
  ∧ (∀ id, s.closer.mode.book? = some id →
      s.tray.book? ≠ some id ∧ ∃ b ∈ s.books, b.id = id ∧ b.stacked = b.leaves.length)

/-- The controller is IDLE exactly when it holds no board, and no hole runs or has timed out then (R117). -/
abbrev DrillIdleEmpty (s : State) : Prop :=
  (s.drill.mode = .idle ↔ s.drill.board = none) ∧ (s.drill.mode = .idle → s.drill.hole = .none ∧ s.drill.index = 0)

/-- The boards at the DRILL station, and the leaves that route DRILL at NOTCH, PUNCH and REG and under the permit. -/
def boardsBound (s : State) : Nat :=
  let bound (x : Option Sheet) : Nat := x.toList.countP fun y => y.route == .drill
  s.track.lane.countP (·.away) + bound s.track.notch + bound s.track.punch + bound s.track.reg
    + (match (s.track.permit.bind fun p => s.book? p.book).bind fun b => b.leaves[b.arrived]? with
        | some leaf => if s.routesDrill leaf then 1 else 0
        | none => 0)

/-- Law 10 (R118) with what carries it: the station holds a board exactly when the controller does, and never more than
one (R61, R64); no second board is on its way to it (R64); a permit stands in RUNNING and DRAINING only (R65), for the
next leaf of its book (R12); the sheet at REG has its leaf's route (R27, R46); the track is empty in NO_DIE and READY. -/
abbrev StationAgrees (s : State) : Prop :=
  DrillIdleEmpty s ∧ boardsBound s ≤ 1
  ∧ (s.track.lane.countP (·.away) = if s.drill.board.isSome then 1 else 0)
  ∧ (∀ p, s.track.permit = some p → (s.line.mode = .running ∨ s.line.mode = .draining)
      ∧ ∃ b ∈ s.books, b.id = p.book ∧ b.arrived < b.leaves.length ∧ p.leaf = b.arrived + 1)
  ∧ (s.line.mode = .running ∨ s.line.mode = .draining → ∀ x i, s.track.reg = some x → x.route ≠ .reject →
      s.planInput x = some i → x.route = leafRoute i.leaf i.die.maxLift)
  ∧ (s.line.mode = .noDie ∨ s.line.mode = .ready → s.track.count = 0)

/-- Law 7 (R40, R139) with what carries it: every sheet past its plan point that is not rejected holds a plan whose slot
count is its book's one T_book, and none in the LANE is rejected; the cut under way or ready is of that count; the tray
book, the served book and the book being closed have one, and the last two are different books; every book names a
format, and every sheet a leaf of its book. -/
abbrev SlotCountsAgree (s : State) : Prop :=
  (∀ x ∈ s.track.punch.toList ++ s.track.notch.toList ++ s.track.lane.map (·.sheet), x.route ≠ .reject →
      ∃ p b, x.plan = some p ∧ b ∈ s.books ∧ b.id = x.book ∧ b.tBook = some p.body.t)
  ∧ (∀ e ∈ s.track.lane, e.sheet.route ≠ .reject)
  ∧ (∀ id, s.tray.book? = some id → ∃ b ∈ s.books, b.id = id ∧ 0 < b.stacked ∧ b.tBook.isSome = true)
  ∧ (∀ id, s.wire.feeder.book? = some id → ∃ b ∈ s.books, b.id = id ∧ 0 < b.arrived ∧ b.tBook.isSome = true
      ∧ (∀ n ms, s.wire.feeder = .feeding id n ms → b.tBook = some n)
      ∧ (∀ n, s.wire.feeder = .cutReady id n → b.tBook = some n))
  ∧ (∀ id, s.closer.mode.book? = some id →
      s.wire.feeder.book? ≠ some id ∧ ∃ b ∈ s.books, b.id = id ∧ b.tBook.isSome = true)
  ∧ (∀ b ∈ s.books, (s.format? b.slot).isSome = true)
  ∧ (∀ x ∈ s.track.sheets, ∀ b ∈ s.books, b.id = x.book → 1 ≤ x.leaf ∧ x.leaf ≤ b.leaves.length)

/-- The line state agrees with the cycle, the watch and the halt cause (R81, R84, R87, R149): the cycle is RELEASED in
RUNNING and DRAINING and in no other state, HELD_IN_PLACE exactly in HALTED; a staged profile stands only while
RELEASED; the watch timer runs, and a boundary drain is PENDING, only in RUNNING; there is a halt cause exactly in
HALTED. -/
abbrev LineAgrees (s : State) : Prop :=
  (s.cycle.hold = .released ↔ s.line.mode = .running ∨ s.line.mode = .draining)
  ∧ (s.cycle.hold = .heldInPlace ↔ s.line.mode = .halted)
  ∧ (s.cycle.staged ≠ none → s.cycle.hold = .released)
  ∧ (s.line.watchTimer ≠ .stopped → s.line.mode = .running)
  ∧ (s.line.boundary = true → s.line.mode = .running)
  ∧ (s.line.haltCause ≠ none ↔ s.line.mode = .halted)

/-- A die record is held in READY, RUNNING and DRAINING and absent in NO_DIE (R100). -/
abbrev DieAgrees (s : State) : Prop :=
  (s.line.mode = .ready ∨ s.line.mode = .running ∨ s.line.mode = .draining → s.die?.isSome = true)
  ∧ (s.line.mode = .noDie → s.die? = none)

/-- The profiles held are valid; the count stays within the active one unless it is held in place, and is 0 when held
with clear (R81, R82, R87). -/
abbrev ProfilesValid (s : State) : Prop :=
  s.cycle.active.valid = true ∧ (∀ p, s.cycle.staged = some p → p.valid = true)
  ∧ (s.cycle.hold = .released → s.cycle.count < s.cycle.active.lc)
  ∧ (s.cycle.hold = .heldClear → s.cycle.count = 0)

/-! ### How a request is answered -/

/-- The part takes commands and its answering side is IDLE, so that a request is dispatched at once (R171). -/
abbrev Attending (s : State) : Prop := s.resetLow = false ∧ s.link.answering = .idle

/-- The state a request is judged in: no output is driven yet, and the good frame has restarted a running watch
(R156, R167). -/
def heard (s : State) : State := { s with out := [], line := s.line.goodFrame }

/-- The reply to a request of a kind below 0x80 is in transmission: kind plus 0x80, the tag, the status, the event
summary and the body (R173), 10 bytes longer than its body (R164). -/
def answered (t : State) (kind tag : Byte) (status : Status) (body : List Byte) : State :=
  { t with
    link :=
      { t.link with
        answering :=
          .sending
            { kind := kind + 0x80, tag := tag, status := status, eventCount := t.notices.queue.length
              mode := t.line.mode, body := body }
            (body.length + 10) } }

/-- A refused request changes nothing else, and its reply carries no body (R172). -/
def refused (s : State) (kind tag : Byte) (status : Status) : State := answered (heard s) kind tag status []

/-- Events entered one after the other (R158). -/
def entered (n : Notices) (l : List Event) : Notices :=
  { queue := l.foldl enter n.queue, attn := n.attn || !l.isEmpty }

/-- The known requests with a tag and a body, each with its kind byte (R172). -/
def requests (tag : Byte) (body : List Byte) : List (Byte × Instr) :=
  [(0x01, .identify tag body), (0x02, .readStatus tag body), (0x03, .run tag body), (0x04, .drain tag body),
   (0x05, .stop tag body), (0x06, .restart tag body), (0x08, .setFormat tag body), (0x09, .readFormat tag body),
   (0x0A, .queueBook tag body), (0x0B, .cancelBook tag body), (0x0C, .readBook tag body), (0x0D, .readTrack tag body),
   (0x10, .setProfile tag body), (0x11, .readProfile tag body), (0x14, .withdrawPin tag body),
   (0x15, .restorePin tag body), (0x16, .readPins tag body), (0x17, .presetPinCounts tag body),
   (0x18, .readDie tag body), (0x1A, .drillSuspend tag body), (0x1B, .drillResume tag body),
   (0x1C, .setDrillBit tag body), (0x1D, .setWireSupply tag body), (0x1E, .setWatch tag body),
   (0x20, .readEvents tag body), (0x21, .readLinkErrors tag body)]

/-! ### What a format may hold -/

/-- Slot `j` lies in a gap (R35). -/
abbrev InGap (x : Gap) (j : Nat) : Prop := x.first ≤ j ∧ j < x.first + x.count

/-- Slot `j` lies in the centred hanger gap of `g` slots in a row of `t` (R35). -/
abbrev InHangerGap (t g j : Nat) : Prop := 0 < g ∧ (t - g) / 2 ≤ j ∧ j < (t - g) / 2 + g

/-- The FIXED-mode conditions of R22 and R23 on a slot count and its gaps, with a hanger gap of `g` slots. -/
abbrev FixedLegal (g t : Nat) (gaps : List Gap) : Prop :=
  2 ≤ t ∧ t ≤ 64 ∧ gaps.length ≤ 3 ∧ (∀ x ∈ gaps, 1 ≤ x.count ∧ x.count ≤ 16)
  ∧ (0 < g → g + 2 ≤ t ∧ (t - g) % 2 = 0)
  ∧ (∀ x ∈ gaps, x.first + x.count ≤ t)
  ∧ gaps.Pairwise (fun x y => ∀ j, ¬ (InGap x j ∧ InGap y j))
  ∧ (∀ x ∈ gaps, ∀ j, ¬ (InGap x j ∧ InHangerGap t g j))
  ∧ g + (gaps.map (·.count)).sum + 2 ≤ t

/-- A format whose fields lie in their ranges and, in FIXED mode, agree (R22, R23). -/
abbrev FormatLegal (f : Format) : Prop :=
  8000 ≤ f.wn ∧ f.wn ≤ 50000 ∧ f.wt ≤ 1000 ∧ 500 ≤ f.p ∧ f.p ≤ 2000 ∧ 200 ≤ f.m ∧ f.m ≤ 3000 ∧ f.g ≤ 16
  ∧ f.skewLimit ≤ 255 ∧ 100 ≤ f.stepLimit ∧ f.stepLimit ≤ 5000 ∧ 500 ≤ f.closeLimit ∧ f.closeLimit ≤ 10000
  ∧ (match f.mode with
      | .auto => True
      | .fixed t gaps => FixedLegal f.g t gaps)

end Sys2Proof.Safety
end

