-- ==== Sys2Proof/Certificates/Slice0/Obligations.lean ====
section
/-! DEFINITION. The statements for the provers. -/

open Sys2Proof Sys2Proof.Machine Sys2Proof.Safety

/-! ### The step, and what every step keeps -/

/-- The command at the front of the queue is taken on the state with the queue's rest; with an empty queue the block
idles (log 3, the model's choice). -/
def Obligations.StepTakesFront : Prop :=
  (∀ (c : Instr) (s : State), step { s with pending := c :: s.pending } = exec c s)
  ∧ (∀ s : State, s.pending = [] → step s = .next s)

/-- Every invariant below holds at State.reset, and its values are those the rules give after a restart (R3, R22, R161,
R44, R61, R81, R100, R117, R134, R138, R144, R149, R162). That the restart is a power-on is the model's choice (log 6);
the link rate, the contact and the start cause of each restart are in `Obligations.RestartsTaken`, and the setpoints in
log 11. -/
def Obligations.ResetMeetsLaws : Prop :=
  TrackReserved State.reset ∧ BooksDistinct State.reset ∧ SpoiledRemoved State.reset
  ∧ SheetsAccounted State.reset ∧ NoticesKept State.reset ∧ LinkErrorsKept State.reset
  ∧ LineAgrees State.reset ∧ DieAgrees State.reset ∧ ProfilesValid State.reset ∧ StationAgrees State.reset
  ∧ SlotCountsAgree State.reset
  ∧ State.reset.books = [] ∧ State.reset.formats = List.replicate 8 none
  ∧ State.reset.arrival = { nextSeq := 0, window := .closed, conversion := none }
  ∧ State.reset.track =
      { reg := none, punch := none, notch := none, lane := [], permit := none, feedPermit := false, diverter := .bin }
  ∧ State.reset.cycle =
      { active := { lc := 2000, pc := 600, po := 1000, pa := 1400 }, staged := none, count := 0, hold := .heldClear
        outstanding := false, stroke := [], totalStrokes := 0, chain := [] }
  ∧ State.reset.die.iface = .empty ∧ State.reset.die.lastRefusal = none
  ∧ State.reset.drill =
      { mode := .idle, board := none, index := 0, hole := .none, resume := none, bitCount := 0, bitLife := 0 }
  ∧ State.reset.tray = .empty ∧ State.reset.wire = { feeder := .idle, spool := 0, lowMark := 0, hooks := 0 }
  ∧ State.reset.closer = { mode := .idle, hookWait := false }
  ∧ State.reset.line =
      { mode := .noDie, haltCause := none, startCause := .powerOn, watchPeriod := 0, watchMode := .atOnce
        watchTimer := .stopped, boundary := false }
  ∧ State.reset.notices = { queue := [], attn := false }
  ∧ (∀ r, { State.reset.link with rate := r } =
      { receiver := .hunt, noiseOpen := false, silence := .stopped, answering := .idle, slot := none, errors := 0
        firstError := none, rate := r })

/-- Law 1 (R62): every step keeps the reserved sum at 6 or less, and a place free under a standing permit. -/
def Obligations.TrackReservedKept : Prop :=
  ∀ s t : State, TrackReserved s → step s = .next t → TrackReserved t

/-- Law 3 (R3): every step keeps at most 16 book records, with distinct ids, none 0; and R19: a SPOILED record that meets
the five conditions never outlives the step. -/
def Obligations.BookRecordsKept : Prop :=
  (∀ s t : State, BooksDistinct s → step s = .next t → BooksDistinct t)
  ∧ (∀ s t : State, SpoiledRemoved s → step s = .next t → SpoiledRemoved t)

/-- Law 4 (R4): every step keeps each arrived sheet counted at most once. -/
def Obligations.SheetsAccountedKept : Prop :=
  ∀ s t : State, SheetsAccounted s → step s = .next t → SheetsAccounted t

/-- Law 8 (R158) and law 9 (R170): every step keeps the event queue with ATTN, and the link error count with its
first-error code. -/
def Obligations.QueueAndErrorsKept : Prop :=
  ∀ s t : State, step s = .next t → (NoticesKept s → NoticesKept t) ∧ (LinkErrorsKept s → LinkErrorsKept t)

/-- The line state, the cycle, the watch, the halt cause, the die and the profiles stay in agreement. -/
def Obligations.ModesAgreeKept : Prop :=
  ∀ s t : State, LineAgrees s → DieAgrees s → ProfilesValid s → step s = .next t →
    LineAgrees t ∧ DieAgrees t ∧ ProfilesValid t

/-- Law 10 (R118): every step keeps the DRILL station in agreement with the Drill Controller, with one board at most,
from states in which the sheets are accounted for and the modes agree. -/
def Obligations.OneBoardAtStationKept : Prop :=
  ∀ s t : State, SheetsAccounted s → LineAgrees s → DieAgrees s → StationAgrees s → step s = .next t →
    StationAgrees t

/-- Law 7 (R40, R139): every step keeps the one slot count of each book, in its sheets' plans and in its wire, from
states in which the sheets are accounted for and the modes agree. -/
def Obligations.OneSlotCountPerBookKept : Prop :=
  ∀ s t : State, SheetsAccounted s → LineAgrees s → DieAgrees s → SlotCountsAgree s → step s = .next t →
    SlotCountsAgree t

/-- The mechanism of law 2 (R63): in every step the LANE loses entries only from its head, one at most unless it is
emptied, and gains at most one, at its tail: the record that stood at NOTCH. -/
def Obligations.LaneMovesInOrder : Prop :=
  ∀ (c : Instr) (s t : State), exec c s = .next t →
    ∃ (k : Nat) (l : List Nat),
      t.track.lane.map (·.sheet.seq) = (s.track.lane.map (·.sheet.seq)).drop k ++ l
      ∧ (k ≤ 1 ∨ t.track.lane = [])
      ∧ (l = [] ∨ ∃ x, s.track.notch = some x ∧ x.route ≠ .reject ∧ l = [x.seq])

/-- Law 5 (R93): PUNCH_FIRE is pulsed at an encoder pulse alone, the stroke record holds the pins driven, and each is
ACTIVE in the pin map of the mounted die. -/
def Obligations.PunchedPinsActive : Prop :=
  ∀ (c : Instr) (s t : State), exec c s = .next t → .punchFire ∈ t.out →
    c = .encPulse true ∧ .pinLoad t.cycle.stroke ∈ t.out ∧ t.cycle.chain = t.cycle.stroke
    ∧ ∀ k ∈ t.cycle.stroke, ∃ d m x, s.die.iface = .mounted d m ∧ m[k]? = some x ∧ x.state = .active

/-- Law 7, its second part (R139): a cut command carries the slot count of the book it is sent for, with its hook flag,
and the feeder serves that book with those loops. (A book without a T_book counts 0 loops, log 15.) -/
def Obligations.WireCutIsBookCount : Prop :=
  ∀ (c : Instr) (s t : State) (n : Nat) (hook : Bool), exec c s = .next t →
    .wireCut n hook ∈ t.out →
    ∃ b ∈ t.books, t.wire.feeder = .feeding b.id n (.running 0) ∧ n = b.tBook.getD 0
      ∧ hook = (b.hanger == .hook)

/-- R172, R173: in an attending part every known request completes; its reply is in transmission with its kind plus 0x80,
its tag, the event count and the line state after its own effect; a refused one changes nothing else and its reply
carries no body. First, the bytes a reply is sent as (R164, R165, R176): start byte, length, kind, tag, the codes of the
status, event count and line state, the body, and the check code over all but the start byte, low byte first. -/
def Obligations.EveryRequestAnswered : Prop :=
  (∀ r : Reply,
      let covered : List Byte := le16 (r.body.length + 5)
        ++ [r.kind, r.tag,
            match r.status with
            | .ok => 0x00 | .unknownKind => 0x01 | .badLength => 0x02 | .badValue => 0x03 | .wrongState => 0x04
            | .full => 0x05 | .inUse => 0x06 | .notFound => 0x07 | .mismatch => 0x08 | .tooSoon => 0x09,
            byte r.eventCount,
            match r.mode with | .noDie => 0 | .ready => 1 | .running => 2 | .draining => 3 | .halted => 4]
        ++ r.body
      r.bytes = [0xC3] ++ covered ++ le16 (crc covered).toNat)
  ∧ ∀ (s : State) (tag : Byte) (body : List Byte) (kind : Byte) (c : Instr),
    Attending s → (kind, c) ∈ requests tag body →
    ∃ (t : State) (status : Status) (reply : List Byte), exec c s = .next t
      ∧ t.link.answering =
          .sending { kind := kind + 0x80, tag := tag, status := status, eventCount := t.notices.queue.length
                     mode := t.line.mode, body := reply } (reply.length + 10)
      ∧ (status ≠ .ok → reply = [] ∧ t = refused s kind tag status)

/-! ### Books -/

/-- QUEUE_BOOK (R6), every check in its order, and the record it appends (R1). -/
def Obligations.QueueBookJudged : Prop :=
  ∀ (s : State) (tag : Byte) (body : List Byte), Attending s →
    let id := u16 body 0
    let slot := u8 body 2
    let kind := u8 body 3
    let n := u8 body 4
    let role (i : Nat) := u8 body (5 + 4 * i)
    let caliper (i : Nat) := u16 body (6 + 4 * i)
    let flag (i : Nat) := u8 body (8 + 4 * i)
    let refuse (status : Status) := refused s 0x0A tag status
    exec (.queueBook tag body) s = .next
      (if body.length < 5 ∨ body.length ≠ 5 + 4 * n then refuse .badLength
      else if 16 ≤ s.books.length then refuse .full
      else if id = 0 then refuse .badValue
      else if ∃ b ∈ s.books, b.id = id then refuse .inUse
      else if 7 < slot then refuse .badValue
      else
        match s.formats.getD slot none with
        | none => refuse .notFound
        | some f =>
          if 2 < kind ∨ n < 2 ∨ 40 < n ∨ ∃ i ∈ List.range n,
              role i = 0 ∨ 3 < role i ∨ caliper i < 40 ∨ 3000 < caliper i ∨ 1 < flag i then refuse .badValue
          else if kind = 1 ∧ f.g = 0 then refuse .badValue
          else if kind = 2 ∧ ∀ i ∈ List.range n, role i ≠ 3 then refuse .badValue
          else if ∃ d ∈ s.die?.toList, d.p ≠ f.p then refuse .mismatch
          else
            answered
              { heard s with
                books := s.books ++
                  [{ id := id, slot := slot
                     hanger := if kind = 0 then .none else if kind = 1 then .hook else .drilled
                     leaves := (List.range n).map fun i =>
                       { role := if role i = 1 then .cover else if role i = 2 then .leaf else .back
                         caliper := caliper i, notch := decide (flag i = 1) }
                     state := .queued, arrived := 0, stacked := 0, rejected := 0, dumped := 0, tBook := none
                     reason := none }] }
              0x0A tag .ok [])

/-- A book written by the layouts of 11_record_layouts.md is taken by QUEUE_BOOK exactly as it was written. -/
def Obligations.QueueBookTakesRecord : Prop :=
  ∀ (s : State) (tag : Byte) (id slot : Nat) (hanger : Hanger) (leaves : List Leaf) (f : Format),
    Attending s → 1 ≤ id → id ≤ 65535 → slot ≤ 7 → s.books.length < 16 → (∀ b ∈ s.books, b.id ≠ id) →
    s.formats.getD slot none = some f → 2 ≤ leaves.length → leaves.length ≤ 40 →
    (∀ l ∈ leaves, 40 ≤ l.caliper ∧ l.caliper ≤ 3000) → (hanger = .hook → 0 < f.g) →
    (hanger = .drilled → ∃ l ∈ leaves, l.role = .back) → (∀ d, s.die? = some d → d.p = f.p) →
    exec (.queueBook tag
        (le16 id ++ [byte slot, hanger.code, byte leaves.length] ++ (leaves.map fun l => [l.role.code] ++ le16 l.caliper ++ [flagByte l.notch]).flatten)) s =
      .next (answered
        { heard s with
          books := s.books ++
            [{ id := id, slot := slot, hanger := hanger, leaves := leaves, state := .queued, arrived := 0
               stacked := 0, rejected := 0, dumped := 0, tBook := none, reason := none }] }
        0x0A tag .ok [])

/-- CANCEL_BOOK (R14): each book state's effect and reply. What the spoil does is `Obligations.SpoilTaken`. -/
def Obligations.CancelBookJudged : Prop :=
  ∀ (s : State) (tag : Byte) (body : List Byte), Attending s →
    let id := u16 body 0
    let refuse (status : Status) := refused s 0x0B tag status
    let cancelled := answered ((heard s).spoil id .cancelled 0 0) 0x0B tag .ok []
    exec (.cancelBook tag body) s = .next
      (if body.length ≠ 2 then refuse .badLength
      else if id = 0 then refuse .badValue
      else
        match s.books.find? (fun b => b.id == id) with
        | none => refuse .notFound
        | some b =>
          match b.state with
          | .queued =>
            if ∃ p ∈ s.track.permit.toList, p.book = id then cancelled
            else answered { heard s with books := s.books.filter fun x => !(x.id == id) } 0x0B tag .ok []
          | .feeding => cancelled
          | .fed => cancelled
          | .stacked => cancelled
          | .closing => refuse .wrongState
          | .spoiled => answered (heard s) 0x0B tag .ok [])

/-- A spoil cause taken for a book that is SPOILED already changes nothing and raises no event (R15, R122), and so for
one not held, the model's stand-in (log 15). A spoil taken for a held book that is not SPOILED (R15 to R19, R73 to R76,
R128, R137, R142, R146): its record with the dump of its stack, and whether it stays; the BOOK_SPOILED event first; the
records of the book at REG, PUNCH and NOTCH; the Drill Controller and the DRILL station; the tray with FLAP and the hook
wait; the Wire Feed; and all that stays. The order of FLAP and a cut command among the outputs is the model's (log 10).
-/
def Obligations.SpoilTaken : Prop :=
  (∀ (s : State) (id : Nat) (r : Reason) (seq value : Nat),
    (s.book? id = none → s.spoil id r seq value = s)
    ∧ ∀ b, s.book? id = some b → b.state = .spoiled → s.spoil id r seq value = s)
  ∧ ∀ (s : State) (id : Nat) (r : Reason) (seq value : Nat) (b : Book),
    SpoiledRemoved s → s.book? id = some b → b.state ≠ .spoiled →
    let t := s.spoil id r seq value
    let hit (x : Sheet) : Sheet :=
      if x.book = id ∧ x.route ≠ .reject then
        { x with route := .reject, reason := some .spoiledBook
                 plan := x.plan.map fun p => if p.state = .ready then { p with state := .discarded } else p }
      else x
    let boardHit := ∃ d, s.drill.board = some d ∧ d.book = id
    let aborting : Drill := { s.drill with mode := .aborting }
    let idle : Drill := { s.drill with mode := .idle, board := none, index := 0, hole := .none }
    let served := s.wire.feeder = .waitingWire id ∨ ∃ n, s.wire.feeder = .cutReady id n
    let dropped : Wire := { s.wire with feeder := .idle }
    -- the book's record
    (∀ x ∈ t.books, x.id = id → ∃ y ∈ s.books, y.id = id ∧ x =
        if s.tray.book? = some id then
          { y with state := .spoiled, reason := some r, dumped := y.dumped + y.stacked, stacked := 0 }
        else { y with state := .spoiled, reason := some r })
    ∧ ((∃ x ∈ t.books, x.id = id) ↔
        (∃ x ∈ s.track.sheets, x.book = id) ∨ (∃ p, s.track.permit = some p ∧ p.book = id)
          ∨ (∃ n ms, s.wire.feeder = .feeding id n ms) ∨ s.closer.mode.book? = some id)
    ∧ (∀ x, x.id ≠ id → (x ∈ t.books ↔ x ∈ s.books))
    -- the events
    ∧ (∃ l, t.notices = entered s.notices
          ({ kind := .bookSpoiled, reason := some r, book := id, seq := seq, value := value } :: l)
        ∧ ∀ e ∈ l, e.kind = .wireLow ∨ e.kind = .wireOut)
    -- the track and the drill
    ∧ t.track.reg = s.track.reg.map hit ∧ t.track.punch = s.track.punch.map hit
    ∧ t.track.notch = s.track.notch.map hit
    ∧ (boardHit → (∃ o, s.drill.mode = .suspended o) →
        t.drill = idle ∧ t.track.lane = s.track.lane.map fun e => { e with away := false })
    ∧ (¬ (boardHit ∧ ∃ o, s.drill.mode = .suspended o) → t.track.lane = s.track.lane)
    ∧ (boardHit → ((s.drill.mode = .drilling ∧ ∃ ms, s.drill.hole = .running ms) ∨ ∃ o, s.drill.mode = .suspendPending o) →
        t.drill = aborting)
    ∧ (¬ boardHit ∨ s.drill.mode = .idle ∨ s.drill.mode = .aborting
          ∨ (s.drill.mode = .drilling ∧ ∀ ms, s.drill.hole ≠ .running ms) → t.drill = s.drill)
    ∧ t.track.permit = s.track.permit ∧ t.track.feedPermit = s.track.feedPermit
    ∧ t.track.diverter = s.track.diverter
    -- the tray, FLAP and the hook wait
    ∧ (s.tray.book? = some id → t.tray = .empty ∧ t.closer = { s.closer with hookWait := false })
    ∧ (s.tray.book? ≠ some id → t.tray = s.tray ∧ t.closer = s.closer)
    ∧ (∃ cuts, t.out = s.out ++ (if s.tray.book? = some id then [.flap false] else []) ++ cuts
        ∧ ∀ o ∈ cuts, ∃ n hook, o = .wireCut n hook)
    -- the Wire Feed
    ∧ (¬ served → t.wire = s.wire)
    ∧ (served → s.tray = .empty ∨ s.tray.book? = some id → t.wire = dropped)
    ∧ (∀ id' x, served → id' ≠ id → s.tray.book? = some id' → s.book? id' = some x →
        (x.state = .spoiled → t.wire = dropped)
        ∧ (x.state ≠ .spoiled → t.wire = (State.startCut { s with wire := dropped } x true).wire))
    -- all that stays
    ∧ t.line = s.line ∧ t.cycle = s.cycle ∧ t.formats = s.formats ∧ t.die = s.die ∧ t.arrival = s.arrival
    ∧ t.link = s.link ∧ t.setpoints = s.setpoints ∧ t.draws = s.draws ∧ t.pending = s.pending
    ∧ t.resetLow = s.resetLow

/-- The requests that read what their body names (R9, R10, R25, R115) change nothing, and what each answers. First, the
codes of R176 for the book states, hanger kinds, roles and pin service states; those of the reasons are in
`Obligations.EventsAndErrorsRead`. -/
def Obligations.NamedReadsAnswered : Prop :=
  ((∀ x : BookState, (x, x.code) ∈ ([(.queued, 1), (.feeding, 2), (.fed, 3), (.stacked, 4), (.closing, 5),
      (.spoiled, 6)] : List (BookState × Byte)))
    ∧ (∀ x : Hanger, (x, x.code) ∈ ([(.none, 0), (.hook, 1), (.drilled, 2)] : List (Hanger × Byte)))
    ∧ (∀ x : Role, (x, x.code) ∈ ([(.cover, 1), (.leaf, 2), (.back, 3)] : List (Role × Byte)))
    ∧ (∀ x : PinState, (x, x.code) ∈
      ([(.active, 0), (.withdrawn, 1), (.retired, 2), (.absent, 3)] : List (PinState × Nat))))
  ∧
  ∀ (s : State) (tag : Byte) (body : List Byte), Attending s →
    let id := u16 body 0
    let a := u8 body 0
    let n := u8 body 1
    exec (.readBook tag body) s = .next
      (if body.length ≠ 2 then refused s 0x0C tag .badLength
      else if id = 0 then
        answered (heard s) 0x0C tag .ok
          (byte s.books.length
            :: (s.books.map fun b => le16 b.id ++ [b.state.code, byte b.leaves.length, byte b.arrived]).flatten)
      else
        match s.books.find? (fun b => b.id == id) with
        | none => refused s 0x0C tag .notFound
        | some b =>
          answered (heard s) 0x0C tag .ok
            ([byte (s.books.findIdx (fun x => x.id == id) + 1), byte (b.leaves.length - b.arrived)] ++ le16 b.id
              ++ [byte b.slot, b.hanger.code, byte b.leaves.length, b.state.code, byte b.arrived, byte b.stacked,
                  byte b.rejected, byte b.dumped, byte (b.tBook.getD 0), reasonCode b.reason]
              ++ (b.leaves.map fun l => [l.role.code] ++ le16 l.caliper ++ [flagByte l.notch]).flatten))
    ∧ exec (.readFormat tag body) s = .next
      (if body.length ≠ 1 then refused s 0x09 tag .badLength
      else if 7 < a then refused s 0x09 tag .badValue
      else
        match s.formats.getD a none with
        | none => refused s 0x09 tag .notFound
        | some f =>
          answered (heard s) 0x09 tag .ok ([byte a, byte (s.books.countP fun b => b.slot == a)] ++ f.bytes))
    ∧ exec (.readPins tag body) s = .next
      (if body.length ≠ 2 then refused s 0x16 tag .badLength
      else if 63 < a ∨ n < 1 ∨ 64 < n ∨ 64 < a + n then refused s 0x16 tag .badValue
      else
        match s.die.iface with
        | .mounted _ m =>
          let held (x : PinState) := byte (m.countP fun p => p.state == x)
          answered (heard s) 0x16 tag .ok
            ([held .active, held .withdrawn, held .retired, held .absent, byte (m.countP fun p => p.worn),
              byte a, byte n]
              ++ (((m.drop a).take n).map fun p =>
                  byte (p.state.code + if p.worn then 128 else 0) :: le32 p.count).flatten)
        | _ => refused s 0x16 tag .wrongState)

/-! ### Formats and the punch plan -/

/-- SET_FORMAT (R24) with the ranges of R22 and the agreement of R23: each check in its order, and the record held. -/
def Obligations.SetFormatJudged : Prop :=
  ∀ (s : State) (tag : Byte) (body : List Byte), Attending s →
    let slot := u8 body 0
    let gap (i : Nat) : Gap := { first := u8 body (13 + 2 * i), count := u8 body (14 + 2 * i) }
    let f : Format :=
      { wn := u16 body 1, wt := u16 body 3, p := u16 body 5
        mode := if u8 body 7 = 0 then .auto else .fixed (u8 body 8) ((List.range (u8 body 12)).map gap)
        m := u16 body 9, g := u8 body 11, skewLimit := u8 body 19
        markPolicy := if u8 body 20 = 0 then .required else if u8 body 20 = 1 then .ifRead else .ignored
        stepLimit := u16 body 21, closeLimit := u16 body 23 }
    (body.length ≠ 25 → exec (.setFormat tag body) s = .next (refused s 0x08 tag .badLength))
    ∧ (body.length = 25 → 7 < slot → exec (.setFormat tag body) s = .next (refused s 0x08 tag .badValue))
    ∧ (body.length = 25 → slot ≤ 7 → (∃ b ∈ s.books, b.slot = slot) →
        exec (.setFormat tag body) s = .next (refused s 0x08 tag .inUse))
    ∧ (body.length = 25 → slot ≤ 7 → (∀ b ∈ s.books, b.slot ≠ slot) →
        ¬ (u8 body 7 ≤ 1 ∧ u8 body 20 ≤ 2 ∧ FormatLegal f) →
        exec (.setFormat tag body) s = .next (refused s 0x08 tag .badValue))
    ∧ (body.length = 25 → slot ≤ 7 → (∀ b ∈ s.books, b.slot ≠ slot) →
        u8 body 7 ≤ 1 → u8 body 20 ≤ 2 → FormatLegal f →
        exec (.setFormat tag body) s =
          .next (answered { heard s with formats := s.formats.set slot (some f) } 0x08 tag .ok []))

/-- The layout of a format record, 24 bytes, as SET_FORMAT carries it and READ_FORMAT returns it, a field not held being
0 (R177). A legal format written by it is stored by SET_FORMAT exactly as it was written. -/
def Obligations.SetFormatStoresRecord : Prop :=
  (∀ (f : Format),
    let gaps : List Gap := match f.mode with | .auto => [] | .fixed _ gaps => gaps
    let place (g : Option Gap) : List Byte := match g with | none => [0, 0] | some g => [byte g.first, byte g.count]
    f.bytes = le16 f.wn ++ le16 f.wt ++ le16 f.p ++ (match f.mode with | .auto => [0, 0] | .fixed t _ => [1, byte t])
      ++ le16 f.m ++ [byte f.g, byte gaps.length] ++ place gaps[0]? ++ place gaps[1]? ++ place gaps[2]?
      ++ [byte f.skewLimit, match f.markPolicy with | .required => 0 | .ifRead => 1 | .ignored => 2]
      ++ le16 f.stepLimit ++ le16 f.closeLimit)
  ∧ ∀ (s : State) (tag : Byte) (slot : Nat) (f : Format),
    Attending s → slot ≤ 7 → (∀ b ∈ s.books, b.slot ≠ slot) → FormatLegal f →
    exec (.setFormat tag (byte slot :: f.bytes)) s =
      .next (answered { heard s with formats := s.formats.set slot (some f) } 0x08 tag .ok [])

/-- When a plan fails with each reason of R27's checks 1 to 6 (R28 to R32), each in the place its order gives it. -/
def Obligations.PlanReasonsInOrder : Prop :=
  ∀ (i : PlanInput),
    let f := i.format
    let widthBad (e : Edges) := e.r ≤ e.l ∨ f.wn + f.wt < e.r - e.l ∨ e.r - e.l + f.wt < f.wn
    let doubled (c : Nat) := 17 * i.leaf.caliper < 10 * c
    let thin (c : Nat) := 2 * c < i.leaf.caliper
    let matched (m : Mark) := m.leaf = i.sheet.leaf ∧ m.tag = i.book.id % 256
    let toWidth := ∃ e, i.sheet.edges = some e ∧ ¬ widthBad e
    let toSkew := toWidth ∧ i.sheet.skew ≤ f.skewLimit
    let toCaliper := toSkew ∧ ∀ c, i.sheet.caliper = some c → ¬ doubled c ∧ ¬ thin c
    let toMark := toCaliper ∧
      (f.markPolicy = .ignored ∨ (f.markPolicy = .ifRead ∧ i.sheet.mark = none)
        ∨ ∃ m, i.sheet.mark = some m ∧ matched m)
    (planSheet i = .error .noGauge ↔ i.sheet.edges = none)
    ∧ (planSheet i = .error .width ↔ ∃ e, i.sheet.edges = some e ∧ widthBad e)
    ∧ (planSheet i = .error .skew ↔ toWidth ∧ f.skewLimit < i.sheet.skew)
    ∧ (planSheet i = .error .doubleFeed ↔ toSkew ∧ ∃ c, i.sheet.caliper = some c ∧ doubled c)
    ∧ (planSheet i = .error .thin ↔ toSkew ∧ ∃ c, i.sheet.caliper = some c ∧ thin c)
    ∧ (planSheet i = .error .markMissing ↔ toCaliper ∧ f.markPolicy = .required ∧ i.sheet.mark = none)
    ∧ (planSheet i = .error .markMismatch ↔
        toCaliper ∧ f.markPolicy ≠ .ignored ∧ ∃ m, i.sheet.mark = some m ∧ ¬ matched m)
    ∧ (planSheet i = .error .pitch ↔ toMark ∧ f.p ≠ i.die.p)

/-- The later failures of a plan (checks 7 to 11 of R27, after the first eight reasons,
`Obligations.PlanReasonsInOrder`): MARGIN for no AUTO count or a row too wide for the margins; then, for a punched sheet,
OUT_OF_REACH, PIN_UNAVAILABLE, NO_NOTCH and NOTCH_REACH by what the pin search and the notch tool find (R33, R34, R37,
R39); a board's plan is made, and a punched sheet's when none of these fails. Either plan is of the count: the book's
T_book, or where it is absent the format's T in FIXED mode and the AUTO count in AUTO mode (R33). -/
def Obligations.PlacementReasons : Prop :=
  ∀ (i : PlanInput) (e : Edges), 500 ≤ i.die.p → i.sheet.edges = some e →
    (∀ r ∈ [Reason.noGauge, .width, .skew, .doubleFeed, .thin, .markMissing, .markMismatch, .pitch],
      planSheet i ≠ .error r) →
    let f := i.format
    let w : Int := (e.r : Int) - e.l
    let none? := i.book.tBook = none ∧ f.mode = .auto ∧ autoSlotCount f i.die.n w = none
    let count (t : Nat) := i.book.tBook = some t ∨ (i.book.tBook = none ∧
      ((∃ gaps, f.mode = .fixed t gaps) ∨ (f.mode = .auto ∧ autoSlotCount f i.die.n w = some t)))
    let narrow (t : Nat) := w - ((t : Int) - 1) * i.die.p < 2 * (f.m : Int)
    let near (t k : Nat) := k + t ≤ i.die.n ∧
      ((e.l : Int) + e.r - ((t : Int) - 1) * i.die.p - 2 * i.die.d0 - 2 * k * i.die.p).natAbs ≤ 1200
    let valid (t k : Nat) := near t k ∧
      ∀ j ∈ holeSlots f t, ∃ x, i.pins[k + j]? = some x ∧ x.state = .active
    let centre := (e.l + e.r) / 2
    (planSheet i = .error .margin ↔ none? ∨ ∃ t, count t ∧ narrow t)
    ∧ ∀ t, count t → ¬ narrow t →
      (i.die.maxLift < i.leaf.caliper → ∃ q, planSheet i = .ok (.board q) ∧ q.t = t)
      ∧ (i.leaf.caliper ≤ i.die.maxLift →
        (planSheet i = .error .outOfReach ↔ ∀ k, ¬ near t k)
        ∧ (planSheet i = .error .pinUnavailable ↔ (∃ k, near t k) ∧ ∀ k, ¬ valid t k)
        ∧ (planSheet i = .error .noNotch ↔ (∃ k, valid t k) ∧ i.leaf.notch = true ∧ i.die.notch = none)
        ∧ (planSheet i = .error .notchReach ↔ (∃ k, valid t k) ∧ i.leaf.notch = true ∧
            ∃ x, i.die.notch = some x ∧ (centre < x.reachMin ∨ x.reachMax < centre
              ∨ ∃ c, i.sheet.caliper = some c ∧ x.maxCaliper < c))
        ∧ (∀ q, planSheet i = .ok (.punched q) → q.t = t)
        ∧ ((∃ k, valid t k) → (i.leaf.notch = true → ∃ x, i.die.notch = some x ∧ x.reachMin ≤ centre
              ∧ centre ≤ x.reachMax ∧ ∀ c, i.sheet.caliper = some c → c ≤ x.maxCaliper) →
            ∃ q, planSheet i = .ok (.punched q)))

/-- The AUTO slot count (R33): the largest count within the margins and the die, even about the hanger gap, with a hole
on each side of it; MARGIN where there is none. -/
def Obligations.AutoSlotCountLargest : Prop :=
  ∀ (f : Format) (n : Nat) (w : Int), 0 < f.p → 2 * (f.m : Int) < w →
    let fits (t : Nat) : Prop :=
      t ≤ n ∧ ((t : Int) - 1) * f.p ≤ w - 2 * f.m ∧ (0 < f.g → t % 2 = f.g % 2) ∧ f.g + 2 ≤ t
    (∀ t, autoSlotCount f n w = some t ↔ fits t ∧ ∀ t', fits t' → t' ≤ t)
    ∧ (autoSlotCount f n w = none ↔ ∀ t, ¬ fits t)

/-- The number of hole slots is T less the hanger gap and the fixed gaps (R35), and each is a slot in no gap. -/
def Obligations.HoleSlotsCounted : Prop :=
  (∀ (f : Format) (t j : Nat),
    j ∈ holeSlots f t ↔ j < t ∧ ¬ InHangerGap t f.g j ∧ ∀ x ∈ f.gaps, ¬ InGap x j)
  ∧ (∀ (f : Format) (t : Nat), (holeSlots f t).Pairwise (· < ·))
  ∧ (∀ (f : Format) (t : Nat) (gaps : List Gap), f.mode = .fixed t gaps → FixedLegal f.g t gaps →
      (holeSlots f t).length = t - f.g - (gaps.map (·.count)).sum)
  ∧ (∀ (f : Format) (t : Nat), f.mode = .auto → f.g ≤ t → (holeSlots f t).length = t - f.g)

/-- The candidates of the pin search (R37): every whole number within reach and no other, nearest first, the smaller of
two equally near first, at most three. -/
def Obligations.CandidatesExamined : Prop :=
  ∀ (x0 : Int) (d0 p : Nat), 500 ≤ p →
    let shift (k : Int) : Int := x0 - 2 * (d0 : Int) - 2 * k * (p : Int)
    (∀ k : Int, k ∈ candidates x0 d0 p ↔ (shift k).natAbs ≤ 1200)
    ∧ (candidates x0 d0 p).Pairwise (fun a b =>
        (shift a).natAbs < (shift b).natAbs ∨ ((shift a).natAbs = (shift b).natAbs ∧ a < b))
    ∧ (candidates x0 d0 p).length ≤ 3

/-- A punched plan (R33 to R41, laws 5 and 6): T is the book's locked count where there is one, the row lies on the die,
the pins are the first pin plus each hole slot, all ACTIVE, no other valid first pin has a nearer shift, the shift is
within 600 of zero and rounded toward it, the margins hold, and the notch is the centre when and only when the leaf is
notched. -/
def Obligations.PunchedPlanSound : Prop :=
  ∀ (i : PlanInput) (q : PunchPlan), 500 ≤ i.die.p → planSheet i = .ok (.punched q) →
    let shift (e : Edges) (t k : Nat) : Int :=
      (e.l : Int) + e.r - ((t : Int) - 1) * i.die.p - 2 * i.die.d0 - 2 * k * i.die.p
    ∃ e, i.sheet.edges = some e ∧ i.leaf.caliper ≤ i.die.maxLift
      ∧ (∀ t, i.book.tBook = some t → q.t = t)
      ∧ q.slots = holeSlots i.format q.t ∧ q.pins = q.slots.map (fun j => q.k0 + j)
      ∧ q.k0 + q.t ≤ i.die.n
      ∧ (∀ k ∈ q.pins, ∃ x, i.pins[k]? = some x ∧ x.state = .active)
      ∧ -600 ≤ q.shift ∧ q.shift ≤ 600
      ∧ q.shift.natAbs = (shift e q.t q.k0).natAbs / 2 ∧ 0 ≤ shift e q.t q.k0 * q.shift
      ∧ (∀ k : Nat, k + q.t ≤ i.die.n → (shift e q.t k).natAbs ≤ 1200 →
          (∀ j ∈ q.slots, ∃ x, i.pins[k + j]? = some x ∧ x.state = .active) →
          (shift e q.t q.k0).natAbs < (shift e q.t k).natAbs
            ∨ ((shift e q.t q.k0).natAbs = (shift e q.t k).natAbs ∧ q.k0 ≤ k))
      ∧ 2 * (i.format.m : Int) ≤ (e.r : Int) - e.l - ((q.t : Int) - 1) * i.die.p
      ∧ (i.leaf.notch = false → q.notch = none)
      ∧ (i.leaf.notch = true → q.notch = some ((e.l + e.r) / 2)
          ∧ ∃ x, i.die.notch = some x ∧ x.reachMin ≤ (e.l + e.r) / 2 ∧ (e.l + e.r) / 2 ≤ x.reachMax
            ∧ ∀ c, i.sheet.caliper = some c → c ≤ x.maxCaliper)

/-- A board's plan (R42): the leaf is above the maximum lift, T is the book's locked count where there is one, there is
one hole for each hole slot in order and one more for the hanger hole, and every hole lies between L and R. -/
def Obligations.BoardPlanSound : Prop :=
  ∀ (i : PlanInput) (q : BoardPlan), planSheet i = .ok (.board q) →
    let row (e : Edges) (q : BoardPlan) : List Nat :=
      q.slots.map fun j => (((e.l : Int) + e.r + (2 * (j : Int) - q.t + 1) * i.format.p) / 2).toNat
    ∃ e, i.sheet.edges = some e ∧ i.die.maxLift < i.leaf.caliper
      ∧ (∀ t, i.book.tBook = some t → q.t = t)
      ∧ q.slots = holeSlots i.format q.t
      ∧ (q.holes = row e q ∨
          (q.holes = row e q ++ [(e.l + e.r) / 2] ∧ i.book.hanger = .drilled ∧ i.leaf.role = .back
            ∧ (e.l + e.r) / 2 ∉ row e q))
      ∧ (i.book.hanger = .drilled → i.leaf.role = .back → (e.l + e.r) / 2 ∈ q.holes)
      ∧ ∀ hu ∈ q.holes, e.l ≤ hu ∧ hu ≤ e.r

/-- The plan point (R26, R40, R43): the plan is made from the sheet's own measurements, its leaf of its book, the format
of the book's slot, and the die record and pin map as they stand; a sheet with route REJECT is not planned; a punched
plan is held READY, locks the slot count and sends its shift; a board's plan is held with route DRILL; a failure gives
route REJECT with its reason and no plan, and spoils the book. -/
def Obligations.PlanPointWrites : Prop :=
  ∀ (s : State) (x : Sheet),
    (∀ b d m f leaf n, s.books.find? (fun b => b.id == x.book) = some b → s.die.iface = .mounted d m →
        s.formats.getD b.slot none = some f → x.leaf = n + 1 → b.leaves[n]? = some leaf →
        s.planInput x = some { sheet := x, leaf := leaf, book := b, format := f, die := d, pins := m })
    ∧ (x.route = .reject → s.planPoint x = s)
    ∧ (∀ i, x.route ≠ .reject → s.planInput x = some i →
        (∀ q, planSheet i = .ok (.punched q) →
          s.planPoint x =
            { s with
              track := { s.track with
                punch := some { x with route := .punch, plan := some { state := .ready, body := .punched q } } }
              books := s.books.map fun b => if b.id = x.book then { b with tBook := some q.t } else b
              setpoints := { s.setpoints with carriage := some q.shift }
              out := s.out ++ [.carriage q.shift] })
        ∧ (∀ q, planSheet i = .ok (.board q) →
          s.planPoint x =
            { s with
              track := { s.track with
                punch := some { x with route := .drill, plan := some { state := .ready, body := .board q } } }
              books := s.books.map fun b => if b.id = x.book then { b with tBook := some q.t } else b })
        ∧ (∀ r, planSheet i = .error r →
          s.planPoint x =
            State.spoil
              { s with
                track := { s.track with punch := some { x with route := .reject, reason := some r, plan := none } } }
              x.book r x.seq x.leaf))

/-! ### Arrival and the sheet track -/

/-- LEAD_EDGE: with a permit standing (R45, R46, R13) the sheet is admitted for the leaf recorded with the permit; with
none (R47) a stray sheet halts the line in every state but HALTED. What the halt does is `Obligations.HaltTaken`. That a
permit issued by the ADVANCE that let another lapse admits too is the model's choice (log 28). -/
def Obligations.LeadEdgeTaken : Prop :=
  (∀ (s : State) (p : Permit) (b : Book) (leaf : Leaf),
      s.resetLow = false → BooksDistinct s → SpoiledRemoved s → s.track.reg = none → s.track.permit = some p →
      s.books.find? (fun b => b.id == p.book) = some b → b.leaves[b.arrived]? = some leaf →
      exec .leadEdge s = .next
        { s with
          out := []
          track :=
            { s.track with
              permit := none, feedPermit := false
              reg := some
                { seq := s.arrival.nextSeq, book := b.id, leaf := b.arrived + 1, role := leaf.role
                  route := if b.state = .spoiled then .reject
                    else if ∃ d ∈ s.die?.toList, d.maxLift < leaf.caliper then .drill else .punch
                  reason := if b.state = .spoiled then some .spoiledBook else none
                  edges := none, skew := 255, caliper := none, mark := none, plan := none, notchDone := false
                  holesDrilled := 0 } }
          arrival :=
            { nextSeq := (s.arrival.nextSeq + 1) % 65536
              window := .waiting, conversion := some s.arrival.nextSeq }
          books := s.books.map fun x =>
            if x.id = b.id then
              { x with
                arrived := x.arrived + 1
                state :=
                  if x.state = .queued ∨ x.state = .feeding then
                    (if x.arrived + 1 = x.leaves.length then .fed else .feeding)
                  else x.state }
            else x })
  ∧ (∀ (s : State), s.resetLow = false → s.track.permit = none →
      exec .leadEdge s = .next (State.halt { s with out := [] } .straySheet))

/-- The skew window at a front-lay edge (R50; at an encoder pulse it is in `Obligations.EncPulseCounts`), and the reports
and the conversion (R52, R54, R56): each is written into the record at REG, replacing what is there, or comes to nothing;
a report whose check fails is discarded. -/
def Obligations.MeasurementsTaken : Prop :=
  (∀ (s : State) (lay : Lay), s.resetLow = false →
      exec (.frontLayEdge lay) s = .next
        (match s.arrival.window with
          | .closed => { s with out := [] }
          | .waiting => { s with out := [], arrival := { s.arrival with window := .counting 0 lay } }
          | .counting n opener =>
            if lay = opener then { s with out := [] }
            else
              { s with
                out := [], arrival := { s.arrival with window := .closed }
                track := { s.track with reg := s.track.reg.map fun x => { x with skew := n } } }))
  ∧ (∀ (s : State), s.resetLow = false →
      let atReg (g : Sheet → Sheet) : State := { s with out := [], track := { s.track with reg := s.track.reg.map g } }
      (∀ l r, exec (.gaugeReport true (.valid l r)) s = .next (atReg fun x =>
          { x with edges := if 60000 < l ∨ 60000 < r then none else some { l := l, r := r } }))
      ∧ exec (.gaugeReport true .noEdge) s = .next (atReg fun x => { x with edges := none })
      ∧ (∀ leaf tag, exec (.markReport true (.read leaf tag)) s = .next (atReg fun x =>
          { x with mark := some { leaf := leaf, tag := tag } }))
      ∧ exec (.markReport true .noRead) s = .next (atReg fun x => { x with mark := none })
      ∧ (∀ r, exec (.gaugeReport false r) s = .next { s with out := [] })
      ∧ (∀ r, exec (.markReport false r) s = .next { s with out := [] })
      ∧ (∀ um, s.arrival.conversion = none → exec (.caliperConversionComplete um) s = .next { s with out := [] })
      ∧ (∀ um seq, s.arrival.conversion = some seq → exec (.caliperConversionComplete um) s = .next
          { s with
            out := [], arrival := { s.arrival with conversion := none }
            track := { s.track with
              reg := s.track.reg.map fun x => if x.seq = seq then { x with caliper := some um } else x } }))

/-- An ADVANCE (R66 to R70, R98): the encoder pulse that brings a released cycle to its ADVANCE point pulses ADVANCE_OUT
and takes the five steps in their order: the lapse of a permit (R65), the departure (`Obligations.DiverterByRoute`), the
move to NOTCH with its notch centre sent (R95; before step 4, the model's choice, log 26), the move to PUNCH, where the
skew window closes (R51) and the sheet is planned (`Obligations.PlanPointWrites`), and the admission
(`Obligations.PermitIssued`). Then what they bring about together: each record one place on, the NOTCH record gone where
its route says. The place of ADVANCE_OUT before the outputs of the steps is the model's (log 10). -/
def Obligations.AdvanceMovesOnePlace : Prop :=
  (∀ (s : State), s.advanceEvent =
      (State.lapsePermit
        { s with cycle := { s.cycle with outstanding := true }, out := s.out ++ [.advanceOut]
        }).divert.moveToNotch.moveToPunch.admission)
  ∧ (∀ (s : State), (s.track.permit = none → s.lapsePermit = s)
      ∧ (s.track.permit ≠ none → s.lapsePermit =
          State.judgeDrainEnd (State.sweep { s with track := { s.track with permit := none, feedPermit := false } })))
  ∧ (∀ (s : State), (s.track.punch = none → s.moveToNotch = s)
      ∧ ∀ x, s.track.punch = some x →
        let moved : State := { s with track := { s.track with punch := none, notch := some x } }
        (∀ p q c, x.route = .punch → x.plan = some p → p.body = .punched q → q.notch = some c →
          s.moveToNotch =
            { moved with setpoints := { s.setpoints with notch := some c }, out := s.out ++ [.notchCentre c] })
        ∧ ((x.route = .punch → ∀ p q, x.plan = some p → p.body = .punched q → q.notch = none) → s.moveToNotch = moved))
  ∧ (∀ (s : State), (s.track.reg = none → s.moveToPunch = s)
      ∧ ∀ x, s.track.reg = some x → s.moveToPunch =
        State.planPoint
          { s with
            track := { s.track with reg := none, punch := some x }, arrival := { s.arrival with window := .closed } } x)
  ∧ ∀ (s : State) (ready : Bool), s.resetLow = false → s.cycle.hold = .released → s.cycle.active.valid = true →
    s.cycle.count + 1 = s.cycle.active.pa →
    ∃ t, exec (.encPulse ready) s = .next t ∧ t.track.reg = none
      ∧ t.track.punch.map (·.seq) = s.track.reg.map (·.seq)
      ∧ t.track.notch.map (·.seq) = s.track.punch.map (·.seq)
      ∧ .advanceOut ∈ t.out
      ∧ (s.track.reg ≠ none → t.arrival.window = .closed)
      ∧ (∀ x p q c, s.track.punch = some x → x.route = .punch → x.plan = some p → p.body = .punched q →
          q.notch = some c → t.setpoints.notch = some c ∧ .notchCentre c ∈ t.out)
      ∧ ((∀ x p q, s.track.punch = some x → x.route = .punch → x.plan = some p → p.body = .punched q → q.notch = none) →
          t.setpoints.notch = s.setpoints.notch)
      ∧ (s.track.notch = none →
          t.track.diverter = .bin ∧ t.track.lane.map (·.sheet) = s.track.lane.map (·.sheet))
      ∧ ∀ x, s.track.notch = some x →
          (x.route = .reject →
            t.track.diverter = .bin ∧ t.track.lane.map (·.sheet) = s.track.lane.map (·.sheet))
          ∧ (x.route = .punch → t.track.diverter = .lane
            ∧ t.track.lane.map (·.sheet) = s.track.lane.map (·.sheet) ++ [x])
          ∧ (x.route = .drill → t.track.diverter = .drill
            ∧ t.track.lane = s.track.lane ++ [{ sheet := x, away := true }])

/-- Admission (R64, R65, R11, R12): after an ADVANCE a permit stands exactly when the line is RUNNING, REG is empty, the
place is free, there is an expected leaf and a board finds the station free; it stands for that leaf, output raised. -/
def Obligations.PermitIssued : Prop :=
  ∀ (s t : State) (ready : Bool) (p : Permit),
    s.resetLow = false → s.cycle.hold = .released → s.cycle.active.valid = true →
    s.cycle.count + 1 = s.cycle.active.pa → exec (.encPulse ready) s = .next t →
    (t.track.permit = some p ↔
      t.line.mode = .running ∧ t.track.reg = none
      ∧ t.track.lane.length + t.track.punch.toList.length + t.track.notch.toList.length + 1 ≤ 6
      ∧ ∃ b leaf, t.books.find? (fun b => b.state == .queued || b.state == .feeding) = some b
        ∧ b.leaves[b.arrived]? = some leaf ∧ p = { book := b.id, leaf := b.arrived + 1 }
        ∧ ((∃ d, t.die? = some d ∧ d.maxLift < leaf.caliper) →
            (∀ e ∈ t.track.lane, e.away = false) ∧ (∀ x, t.track.punch = some x → x.route ≠ .drill)
            ∧ (∀ x, t.track.notch = some x → x.route ≠ .drill)))
    ∧ (t.track.permit = some p → t.track.feedPermit = true)

/-- The departure at the diverter (R67 to R70, R119), in full, and the levels of DIVERT_A and DIVERT_B at each setting.
The step limit of a book or format that is not held is 0, a stand-in for states no run reaches (log 15). -/
def Obligations.DiverterByRoute : Prop :=
  (∀ (s : State),
    (s.divertA = true ↔ s.track.diverter = .lane) ∧ (s.divertB = true ↔ s.track.diverter = .drill))
  ∧ ∀ (s : State),
    (s.track.notch = none → s.divert = { s with track := { s.track with diverter := .bin } })
    ∧ ∀ x, s.track.notch = some x →
      (x.route = .punch →
        s.divert = { s with track := { s.track with
          notch := none, diverter := .lane, lane := s.track.lane ++ [{ sheet := x, away := false }] } })
      ∧ (∀ q hu rest, x.route = .drill → x.plan = some { state := .ready, body := .board q } →
          q.holes = hu :: rest →
        s.divert =
          { s with
            track := { s.track with
              notch := none, diverter := .drill, lane := s.track.lane ++ [{ sheet := x, away := true }] }
            drill := { s.drill with
              mode := .drilling, index := 0, hole := .running 0
              board := some
                { seq := x.seq, book := x.book, holes := q.holes
                  stepLimit := (((s.books.find? fun b => b.id == x.book).bind fun b =>
                    s.formats.getD b.slot none).map (·.stepLimit)).getD 0 } }
            out := s.out ++ [.drillPosition hu, .drillGo] })
      ∧ (x.route = .reject →
        s.divert =
          State.judgeDrainEnd (State.sweep
            { s with
              track := { s.track with notch := none, diverter := .bin }
              books := s.books.map fun b => if b.id = x.book then { b with rejected := b.rejected + 1 } else b
              notices := entered s.notices
                [{ kind := .sheetRejected, reason := x.reason, book := x.book, seq := x.seq, value := x.leaf }] }))

/-! ### The stroke cycle -/

/-- ENC_PULSE (R86, R50): in every hold state the skew window counts it. While RELEASED the count rises, at no point of
the profile with nothing else; at each point the event of that point is raised, and at Lc the count becomes 0. What the
events do is stated in `Obligations.StrokeMade`, `NotchFired`, `OpenCountsStrokes`, `HeadOffered`,
`AdvanceMovesOnePlace`, `PermitIssued` and `TransportHandshake`. -/
def Obligations.EncPulseCounts : Prop :=
  ∀ (s : State) (ready : Bool), s.resetLow = false →
    let w : State :=
      match s.arrival.window with
      | .counting n opener =>
        if n + 1 < 255 then { s with out := [], arrival := { s.arrival with window := .counting (n + 1) opener } }
        else
          { s with
            out := [], arrival := { s.arrival with window := .closed }
            track := { s.track with reg := s.track.reg.map fun x => { x with skew := 255 } } }
      | _ => { s with out := [] }
    let counted (n : Nat) : State := { w with cycle := { s.cycle with count := n } }
    let n := s.cycle.count + 1
    exec (.encPulse ready) s = .next
      (if s.cycle.hold ≠ .released then w
      else if n = s.cycle.active.lc then (counted 0).cycleStart
      else if n = s.cycle.active.pc then (counted n).closeEvent ready
      else if n = s.cycle.active.po then (counted n).openEvent
      else if n = s.cycle.active.pa then (counted n).advanceEvent
      else counted n)

/-- The stroke of a CLOSE on the record at PUNCH (R90 to R93), whatever stands at NOTCH: the null stroke with PUNCH
empty, a board or a rejected record there, or no READY punched plan; the punched stroke of a READY plan with the carriage
ready and every pin ACTIVE; and the two failures. The notch of the same CLOSE is `Obligations.NotchFired`. The place of a
spoil's outputs after the load of the null stroke is the model's (log 10). -/
def Obligations.StrokeMade : Prop :=
  ∀ (s : State) (ready : Bool),
    let null : State := { s with cycle := { s.cycle with chain := [] }, out := s.out ++ [.pinLoad []] }
    (s.track.punch = none → s.closePunch ready = null)
    ∧ ∀ x, s.track.punch = some x →
      (x.route ≠ .punch → s.closePunch ready = null)
      ∧ ((∀ q, x.plan ≠ some { state := .ready, body := .punched q }) → s.closePunch ready = null)
      ∧ ∀ q, x.route = .punch → x.plan = some { state := .ready, body := .punched q } →
        ((ready = true ∧ (∀ k ∈ q.pins, ∃ y, (s.pins?.getD [])[k]? = some y ∧ y.state = .active)) →
          s.closePunch ready =
            { s with
              track := { s.track with
                punch := some { x with plan := some { state := .applied, body := .punched q } } }
              cycle := { s.cycle with chain := q.pins, stroke := q.pins }
              out := s.out ++ [.pinLoad q.pins, .punchFire] })
        ∧ (∀ r, ((ready = false ∧ r = .carriageLate)
              ∨ (ready = true ∧ r = .pinUnavailable
                ∧ ∃ k ∈ q.pins, ∀ y, (s.pins?.getD [])[k]? = some y → y.state ≠ .active)) →
          s.closePunch ready =
            State.spoil
              { null with
                track := { s.track with
                  punch := some { x with
                    route := .reject, reason := some r
                    plan := some { state := .discarded, body := .punched q } } } }
              x.book r x.seq x.leaf)

/-- The notch of a CLOSE (R95), with the stroke of the same CLOSE (`Obligations.StrokeMade`). It is due for a record of
route PUNCH with a notch centre whose book is not SPOILED. Due after the stroke, it is fired and marked done; never due,
the CLOSE is the stroke alone; due before and not after, because a failure at PUNCH spoiled its book, it is fired or not
(R94, R95: either order, a free value, log 12). Then the two common cases in full: both sheets at once, and a failure of
another book's sheet. That NOTCH_FIRE stands last among the outputs of its CLOSE is the model's choice (log 29). -/
def Obligations.NotchFired : Prop :=
  ∀ (s : State) (ready : Bool),
    let due (u : State) := ∃ x p q c, u.track.notch = some x ∧ x.route = .punch ∧ x.plan = some p
      ∧ p.body = .punched q ∧ q.notch = some c
      ∧ ∀ b, u.books.find? (fun b => b.id == x.book) = some b → b.state ≠ .spoiled
    let fired (u : State) : State :=
      { u with
        track := { u.track with notch := u.track.notch.map fun x => { x with notchDone := true } }
        out := u.out ++ [.notchFire] }
    let t := s.closePunch ready
    (due t → s.closeEvent ready = fired t)
    ∧ (¬ due s → ¬ due t → s.closeEvent ready = t)
    ∧ (due s → ¬ due t →
        s.closeEvent ready = fired { t with draws := t.draws + 1 } ∨ s.closeEvent ready = { t with draws := t.draws + 1 })
    ∧ (∀ x y q, s.track.punch = some x → x.route = .punch →
        x.plan = some { state := .ready, body := .punched q } → s.track.notch = some y → due s → ready = true →
        (∀ k ∈ q.pins, ∃ z, (s.pins?.getD [])[k]? = some z ∧ z.state = .active) →
        s.closeEvent ready =
          { s with
            track := { s.track with
              punch := some { x with plan := some { state := .applied, body := .punched q } }
              notch := some { y with notchDone := true } }
            cycle := { s.cycle with chain := q.pins, stroke := q.pins }
            out := s.out ++ [.pinLoad q.pins, .punchFire, .notchFire] })
    ∧ (∀ x y q, s.track.punch = some x → x.route = .punch →
        x.plan = some { state := .ready, body := .punched q } → s.track.notch = some y → due s → x.book ≠ y.book →
        (ready = false ∨ ∃ k ∈ q.pins, ∀ z, (s.pins?.getD [])[k]? = some z → z.state ≠ .active) →
        s.closeEvent ready = fired t ∧ (s.closeEvent ready).track.notch = some { y with notchDone := true })

/-- The OPEN (R86): the strokes are counted, then the LANE head is handed over (`Obligations.HeadOffered`). The strokes
counted (R96, R97): each pin of the stroke record counts one, saturating; a pin that comes to the threshold is worn, with
PIN_WORN in increasing pin number; the total rises by 1 when a pin was driven. -/
def Obligations.OpenCountsStrokes : Prop :=
  (∀ s : State, s.openEvent = s.countStroke.handOver)
  ∧ ∀ (s : State) (d : DieRecord) (m : List Pin), s.die.iface = .mounted d m →
    let up (n : Nat) := if n < 4294967295 then n + 1 else n
    let worn (k : Nat) := s.cycle.stroke.contains k &&
      (m[k]?.any fun x => decide (x.count < d.pinLife * 1000) && decide (up x.count = d.pinLife * 1000))
    ∃ m', s.countStroke =
        { s with
          cycle := { s.cycle with
            totalStrokes := if s.cycle.stroke = [] then s.cycle.totalStrokes else up s.cycle.totalStrokes }
          die := { s.die with iface := .mounted d m' }
          notices := entered s.notices (((List.range m.length).filter worn).map fun k =>
            { kind := .pinWorn, reason := none, book := 0, seq := 0, value := k }) }
      ∧ m'.length = m.length
      ∧ ∀ k x, m[k]? = some x → m'[k]? =
          some (if k ∈ s.cycle.stroke then { x with count := up x.count, worn := x.worn || worn k } else x)

/-- The transport handshake (R98, R99, R89): ADVANCE_DONE, and the CYCLE_START with and without an advance outstanding.
-/
def Obligations.TransportHandshake : Prop :=
  (∀ (s : State), s.resetLow = false →
    exec .advanceDone s = .next
      (if s.cycle.hold = .released then { s with out := [], cycle := { s.cycle with outstanding := false } }
        else { s with out := [] }))
  ∧ (∀ (s : State), s.cycle.outstanding = true → s.cycleStart = s.halt .jam)
  ∧ (∀ (s : State), s.cycle.outstanding = false →
      let done : State :=
        { s with cycle :=
          { s.cycle with
            stroke := [], staged := none
            active := match s.cycle.staged with | some p => p | none => s.cycle.active } }
      (s.line.boundary = false → s.cycleStart = done)
      ∧ (s.line.boundary = true → s.cycleStart = done.enterDraining))

/-- SET_PROFILE (R83, R82, R84): the checks in their order; the profile is staged while RELEASED, and active at once in
either hold. -/
def Obligations.SetProfileJudged : Prop :=
  ∀ (s : State) (tag : Byte) (body : List Byte), Attending s →
    let p : Profile := { lc := u16 body 0, pc := u16 body 2, po := u16 body 4, pa := u16 body 6 }
    exec (.setProfile tag body) s = .next
      (if body.length ≠ 8 then refused s 0x10 tag .badLength
      else if 1000 ≤ p.lc ∧ p.lc ≤ 4000 ∧ 1 ≤ p.pc ∧ p.pc < p.po ∧ p.po < p.pa ∧ p.pa ≤ p.lc - 1 then
        (if s.cycle.hold = .released then
          answered { heard s with cycle := { s.cycle with staged := some p } } 0x10 tag .ok []
        else answered { heard s with cycle := { s.cycle with active := p, staged := none } } 0x10 tag .ok [])
      else refused s 0x10 tag .badValue)

/-! ### The die -/

/-- The contact (R101, R110): what its closing and its opening do in each interface state. That the line stays in NO_DIE
when a die is removed there is a stand-in for states no run reaches (log 15). -/
def Obligations.ContactTaken : Prop :=
  ∀ (s : State), s.resetLow = false →
    exec .diePresentCloses s = .next
      (match s.die.iface with
        | .empty =>
          { s with out := [.descriptorRead 0x52], die := { s.die with contact := true, iface := .mounting } }
        | _ => { s with out := [], die := { s.die with contact := true } })
    ∧ exec .diePresentOpens s = .next
      (match s.die.iface with
        | .mounted d _ =>
          let t : State :=
            { s with
              out := [], die := { s.die with contact := false, iface := .empty }
              notices := entered s.notices
                [{ kind := .dieRemoved, reason := none, book := 0, seq := 0, value := d.n }] }
          match s.line.mode with
          | .ready =>
            { t with
              line := { s.line with mode := .noDie }
              notices := entered s.notices
                [{ kind := .dieRemoved, reason := none, book := 0, seq := 0, value := d.n },
                 { kind := .lineState, reason := none, book := 0, seq := 0, value := 256 }] }
          | .noDie => t
          | _ => t.halt .dieRemoved
        | _ => { s with out := [], die := { s.die with contact := false, iface := .empty } })

/-- The end of a descriptor read (R103, R108, R109): a valid one mounts the die with a fresh pin map and brings a line in
NO_DIE to READY; an invalid one refuses it with the number of its check; with no read in flight nothing happens. -/
def Obligations.DescriptorJudged : Prop :=
  ∀ (s : State) (fetched : List Byte), s.resetLow = false →
    (s.die.iface ≠ .mounting → exec (.descriptorReadComplete fetched) s = .next { s with out := [] })
    ∧ (∀ c, s.die.iface = .mounting → judgeDescriptor fetched = .error c →
        exec (.descriptorReadComplete fetched) s = .next
          { s with
            out := [], die := { s.die with iface := .refused, lastRefusal := some c }
            notices := entered s.notices
              [{ kind := .dieRefused, reason := none, book := 0, seq := 0, value := c.number }] })
    ∧ (∀ d, s.die.iface = .mounting → judgeDescriptor fetched = .ok d →
        let pins : List Pin := (List.range 64).map fun k =>
          { state := if d.n ≤ k then .absent else if k ∈ d.retired then .retired else .active
            worn := false, count := 0 }
        let mounted : Event := { kind := .dieMounted, reason := none, book := 0, seq := 0, value := d.n }
        let ready : Event := { kind := .lineState, reason := none, book := 0, seq := 0, value := 1 }
        exec (.descriptorReadComplete fetched) s = .next
          { s with
            out := [], die := { s.die with iface := .mounted d pins }
            line := { s.line with mode := if s.line.mode = .noDie then .ready else s.line.mode }
            notices := entered s.notices (if s.line.mode = .noDie then [mounted, ready] else [mounted]) })

/-- The judgement of a descriptor (R103 to R108, the layouts of 11_record_layouts.md), for every list of bytes the
transfers fetched: when each of the eleven checks is the first to fail, and the die record of a descriptor that passes
them all. A header with an unknown id is judged nowhere but in the total and the check code (R104). Which bytes check 1
needs is read from R102 (log 9). Last, a descriptor written by the layouts with a pin table and a notch tool table is
read as the die record it states. -/
def Obligations.DescriptorRead : Prop :=
  (∀ d : List Byte,
    let count := u8 d 6
    let total := u16 d 8
    let heads := 10 + 8 * count
    let id (i : Nat) := u8 d (10 + 8 * i)
    let revision (i : Nat) := u8 d (11 + 8 * i)
    let words (i : Nat) := u16 d (12 + 8 * i)
    let pointer (i : Nat) := u16 d (14 + 8 * i) + 65536 * u8 d (16 + 8 * i)
    let least (i k : Nat) := (id i = 1 ∧ k = 3) ∨ (id i = 2 ∧ k = 2) ∨ (id i = 3 ∧ k = 5)
    let signed := 10 ≤ d.length ∧ d.take 4 = [0x4F, 0x46, 0x44, 0x31]
    let revised := signed ∧ u8 d 4 = 1
    let counted := revised ∧ 1 ≤ count ∧ count ≤ 4
    let sized := counted ∧ heads ≤ total ∧ total + 2 ≤ 2048
    let fetched := sized ∧ total + 2 ≤ d.length
    let checked := fetched ∧ (crc (d.take total)).toNat = u16 d total
    let malformed := ∃ i k, i < count ∧ least i k ∧ (revision i = 0 ∨ total < pointer i + 4 * words i
      ∨ pointer i < heads ∨ words i < k ∨ ∃ j, j < i ∧ id j = id i)
    let formed := checked ∧ ¬ malformed
    let tableAt (k o : Nat) := ∃ i, i < count ∧ id i = k ∧ pointer i = o
    let pinsOk (o : Nat) := 16 ≤ u8 d o ∧ u8 d o ≤ 64 ∧ 500 ≤ u16 d (o + 2) ∧ u16 d (o + 2) ≤ 2000
      ∧ u16 d (o + 4) + (u8 d o - 1) * u16 d (o + 2) ≤ 60000 ∧ 50 ≤ u16 d (o + 6) ∧ u16 d (o + 6) ≤ 1500
      ∧ 1 ≤ u16 d (o + 8)
    let notchOk (o : Nat) := u16 d o ≤ u16 d (o + 2) ∧ u16 d (o + 2) ≤ 60000 ∧ 1 ≤ u16 d (o + 4)
      ∧ u16 d (o + 4) ≤ 4095
    let retiredOk (n o : Nat) := u8 d o ≤ 16 ∧ ∀ j, j < u8 d o → u8 d (o + 1 + j) < n
    let fails (c : DieCheck) := judgeDescriptor d = .error c
    (fails .noResponse ↔ d.length < 10 ∨ (sized ∧ d.length < total + 2))
    ∧ (fails .signature ↔ 10 ≤ d.length ∧ ¬ signed)
    ∧ (fails .revision ↔ signed ∧ ¬ revised)
    ∧ (fails .headerCount ↔ revised ∧ ¬ counted)
    ∧ (fails .length ↔ counted ∧ ¬ sized)
    ∧ (fails .crc ↔ fetched ∧ ¬ checked)
    ∧ (fails .tableForm ↔ checked ∧ malformed)
    ∧ (fails .noPinTable ↔ formed ∧ ∀ o, ¬ tableAt 1 o)
    ∧ (fails .pinValue ↔ formed ∧ ∃ o, tableAt 1 o ∧ ¬ pinsOk o)
    ∧ (fails .notchValue ↔ formed ∧ (∃ o, tableAt 1 o ∧ pinsOk o) ∧ ∃ o, tableAt 2 o ∧ ¬ notchOk o)
    ∧ (fails .retiredValue ↔ formed ∧ (∀ o, tableAt 2 o → notchOk o)
        ∧ ∃ o q, tableAt 1 o ∧ pinsOk o ∧ tableAt 3 q ∧ ¬ retiredOk (u8 d o) q)
    ∧ ∀ r, judgeDescriptor d = .ok r ↔ formed ∧ (∀ o, tableAt 2 o → notchOk o)
        ∧ ∃ o, tableAt 1 o ∧ pinsOk o ∧ (∀ q, tableAt 3 q → retiredOk (u8 d o) q)
          ∧ r.minor = u8 d 5 ∧ r.n = u8 d o ∧ r.p = u16 d (o + 2) ∧ r.d0 = u16 d (o + 4)
          ∧ r.maxLift = u16 d (o + 6) ∧ r.pinLife = u16 d (o + 8)
          ∧ ((∀ q, ¬ tableAt 2 q) → r.notch = none)
          ∧ (∀ q, tableAt 2 q →
              r.notch = some { reachMin := u16 d q, reachMax := u16 d (q + 2), maxCaliper := u16 d (q + 4) })
          ∧ r.retired.Pairwise (· < ·)
          ∧ ∀ k, k ∈ r.retired ↔ ∃ q j, tableAt 3 q ∧ j < u8 d q ∧ u8 d (q + 1 + j) = k)
  ∧ ∀ (minor n p d0 lift life lo hi cal : Nat) (x : Nat),
    minor ≤ 255 → 16 ≤ n → n ≤ 64 → 500 ≤ p → p ≤ 2000 → d0 + (n - 1) * p ≤ 60000 → 50 ≤ lift → lift ≤ 1500 →
    1 ≤ life → life ≤ 65535 → lo ≤ hi → hi ≤ 60000 → 1 ≤ cal → cal ≤ 4095 → x ≤ 65535 →
    let region : List Byte :=
      [0x4F, 0x46, 0x44, 0x31, 1, byte minor, 2, 0] ++ le16 46
        ++ [1, 1] ++ le16 3 ++ [26, 0, 0, 0] ++ [2, 1] ++ le16 2 ++ [38, 0, 0, 0]
        ++ [byte n, 0] ++ le16 p ++ le16 d0 ++ le16 lift ++ le16 life ++ [0, 0]
        ++ le16 lo ++ le16 hi ++ le16 cal ++ [0, 0]
    judgeDescriptor (region ++ le16 x) =
      if x = (crc region).toNat then
        .ok { minor := minor, n := n, p := p, d0 := d0, maxLift := lift, pinLife := life
              notch := some { reachMin := lo, reachMax := hi, maxCaliper := cal }, retired := [] }
      else .error .crc

/-- WITHDRAW_PIN (R112) and RESTORE_PIN (R113): the checks in their order, and the state the pin takes. -/
def Obligations.PinServiceSet : Prop :=
  ∀ (s : State) (tag : Byte) (body : List Byte), Attending s →
    let k := u8 body 0
    let judged (kind : Byte) (x : PinState) : State :=
      if body.length ≠ 1 then refused s kind tag .badLength
      else if 63 < k then refused s kind tag .badValue
      else
        match s.die.iface with
        | .mounted d m =>
          if ∃ y ∈ m[k]?.toList, y.state = .active ∨ y.state = .withdrawn then
            answered
              { heard s with
                die := { s.die with iface := .mounted d (m.modify k fun y => { y with state := x }) } }
              kind tag .ok []
          else refused s kind tag .badValue
        | _ => refused s kind tag .wrongState
    exec (.withdrawPin tag body) s = .next (judged 0x14 .withdrawn)
    ∧ exec (.restorePin tag body) s = .next (judged 0x15 .active)

/-- PRESET_PIN_COUNTS (R114): the checks in their order; each named pin takes its count, its worn flag recomputed, and no
other pin changes. -/
def Obligations.PinCountsPreset : Prop :=
  ∀ (s : State) (tag : Byte) (body : List Byte), Attending s →
    let k := u8 body 0
    let c := u8 body 1
    (body.length < 2 ∨ c < 1 ∨ 16 < c ∨ body.length ≠ 2 + 4 * c →
      exec (.presetPinCounts tag body) s = .next (refused s 0x17 tag .badLength))
    ∧ (body.length = 2 + 4 * c → 1 ≤ c → c ≤ 16 → s.line.mode ≠ .ready →
      exec (.presetPinCounts tag body) s = .next (refused s 0x17 tag .wrongState))
    ∧ ∀ d m, body.length = 2 + 4 * c → 1 ≤ c → c ≤ 16 → s.line.mode = .ready → s.die.iface = .mounted d m →
      (d.n < k + c → exec (.presetPinCounts tag body) s = .next (refused s 0x17 tag .badValue))
      ∧ (k + c ≤ d.n →
        ∃ m', exec (.presetPinCounts tag body) s =
            .next (answered { heard s with die := { s.die with iface := .mounted d m' } } 0x17 tag .ok [])
          ∧ m'.length = m.length
          ∧ ∀ j x, m[j]? = some x → m'[j]? =
              some (if k ≤ j ∧ j < k + c then
                { x with count := u32 body (2 + 4 * (j - k))
                         worn := decide (d.pinLife * 1000 ≤ u32 body (2 + 4 * (j - k))) }
                else x))

/-! ### The drill station -/

/-- DRILL_SUSPEND (R124), DRILL_RESUME (R126) and SET_DRILL_BIT (R132): the checks in their order and their effects. -/
def Obligations.DrillRequestsJudged : Prop :=
  ∀ (s : State) (tag : Byte) (body : List Byte), Attending s →
    let resumed (b : Board) : Event :=
      { kind := .drillResumed, reason := none, book := b.book, seq := b.seq, value := s.track.boardHoles }
    exec (.drillSuspend tag body) s = .next
      (if body.length ≠ 0 then refused s 0x1A tag .badLength
      else
        match s.drill.mode, s.drill.hole with
        | .drilling, .running _ =>
          if ∃ ms ∈ s.drill.resume.toList, ms < 200 then refused s 0x1A tag .tooSoon
          else answered { heard s with drill := { s.drill with mode := .suspendPending .request } } 0x1A tag .ok []
        | _, _ => refused s 0x1A tag .wrongState)
    ∧ (body.length ≠ 0 → exec (.drillResume tag body) s = .next (refused s 0x1B tag .badLength))
    ∧ (body = [] → s.drill.mode ≠ .suspended .request ∨ s.line.mode = .halted →
        exec (.drillResume tag body) s = .next (refused s 0x1B tag .wrongState))
    ∧ (∀ b hu, body = [] → s.drill.mode = .suspended .request → s.line.mode ≠ .halted → s.drill.board = some b →
        b.holes[s.drill.index]? = some hu →
        exec (.drillResume tag body) s = .next (answered
          { heard s with
            drill := { s.drill with mode := .drilling, hole := .running 0, resume := some 0 }
            notices := entered s.notices [resumed b]
            out := [.drillPosition hu, .drillGo] } 0x1B tag .ok []))
    ∧ (∀ b, body = [] → s.drill.mode = .suspended .request → s.line.mode ≠ .halted → s.drill.board = some b →
        b.holes.length ≤ s.drill.index →
        exec (.drillResume tag body) s = .next (answered
          { heard s with
            drill := { s.drill with mode := .idle, board := none, index := 0, hole := .none, resume := some 0 }
            track := { s.track with lane := s.track.lane.map fun e => { e with away := false } }
            notices := entered s.notices [resumed b] } 0x1B tag .ok []))
    ∧ exec (.setDrillBit tag body) s = .next
      (if body.length ≠ 2 then refused s 0x1C tag .badLength
      else
        answered { heard s with drill := { s.drill with bitLife := u16 body 0, bitCount := 0 } } 0x1C tag .ok
          (le32 s.drill.bitCount ++ le16 s.drill.bitLife))

/-- HOLE_DONE (R120, R121, R123, R125, R128, R131): ignored with no hole RUNNING; else the hole is counted, and the next
hole is sent, the board finished, suspended or finished as aborted. DRILL_STEP_LIMIT_EXPIRY (R122): the hole times out,
the board's book is spoiled with DRILL_ABORT, which changes nothing for one SPOILED already (R122, R129,
`Obligations.SpoilTaken`), and the line halts. RESUME_TIMER_MARK (R124): the timer reaches its mark, 200 ms (log 4). That
a step limit with no hole RUNNING and a mark with no resume timer come to nothing is the model's reading (log 5). -/
def Obligations.HoleEndsTaken : Prop :=
  (∀ (s : State), s.resetLow = false →
      ((∀ ms, s.drill.hole ≠ .running ms) → exec .holeDone s = .next { s with out := [] })
      ∧ ∀ ms b, s.drill.hole = .running ms → s.drill.board = some b →
        let count := if s.drill.bitCount < 4294967295 then s.drill.bitCount + 1 else s.drill.bitCount
        let due : List Event :=
          if 0 < s.drill.bitLife ∧ s.drill.bitCount + 1 = s.drill.bitLife then
            [{ kind := .bitDue, reason := none, book := b.book, seq := b.seq, value := s.drill.bitLife }] else []
        let lane : List LaneEntry := s.track.lane.map fun e =>
          if e.away then { e with sheet := { e.sheet with holesDrilled := e.sheet.holesDrilled + 1 } } else e
        let counted : State :=
          { s with
            out := [], track := { s.track with lane := lane }
            drill := { s.drill with index := s.drill.index + 1, hole := .none, bitCount := count }
            notices := entered s.notices due }
        let finished : State :=
          { counted with
            track := { s.track with lane := lane.map fun e => { e with away := false } }
            drill := { s.drill with mode := .idle, board := none, index := 0, hole := .none, bitCount := count } }
        (∀ hu, s.drill.mode = .drilling → b.holes[s.drill.index + 1]? = some hu →
          exec .holeDone s = .next
            { counted with
              drill := { s.drill with index := s.drill.index + 1, hole := .running 0, bitCount := count }
              out := [.drillPosition hu, .drillGo] })
        ∧ (s.drill.mode = .drilling → b.holes.length ≤ s.drill.index + 1 → exec .holeDone s = .next finished)
        ∧ (s.drill.mode = .aborting → exec .holeDone s = .next finished)
        ∧ ∀ o, s.drill.mode = .suspendPending o →
          exec .holeDone s = .next
            { counted with
              drill := { s.drill with
                mode := .suspended o, index := s.drill.index + 1, hole := .none, bitCount := count }
              notices := entered s.notices (due ++
                [{ kind := .drillSuspended
                   reason := match o with | .request => none | .halt => s.line.haltCause.map HaltCause.reason
                   book := b.book, seq := b.seq
                   value := (((lane.find? (·.away)).map (·.sheet)).map (·.holesDrilled)).getD 0 }]) })
  ∧ (∀ (s : State), s.resetLow = false →
      ((∀ ms, s.drill.hole ≠ .running ms) → exec .drillStepLimitExpiry s = .next { s with out := [] })
      ∧ (∀ ms b, s.drill.hole = .running ms → s.drill.board = some b →
          exec .drillStepLimitExpiry s = .next
            (((State.spoil { s with out := [], drill := { s.drill with mode := .drilling, hole := .timedOut } }
              b.book .drillAbort 0 0)).halt .drillFault))
      ∧ exec .resumeTimerMark s = .next
          { s with
            out := []
            drill := { s.drill with resume := match s.drill.resume with | none => none | some _ => some 200 } })

/-! ### Stacking and wire closing -/

/-- CUT_DONE (R141, R142): ignored unless the feeder is FEEDING with its timer RUNNING, and so FEED_TIMER_EXPIRY, which
is the model's reading (log 5); a cut of a book that is not SPOILED is ready for the Closer, a SPOILED book's is dropped;
the limit halts the line. The judgement of a start (R139, R142): for a tray book that is not SPOILED with the feeder
IDLE, and for no other. The start of the Wire Feed (R139, R140, law 11): with the loops on the spool they are taken and
the cut is commanded, WIRE_LOW raised when the spool falls through the low mark; without them the feeder waits, WIRE_OUT
raised at the first start alone. -/
def Obligations.WireFeedTaken : Prop :=
  (∀ (s : State), s.resetLow = false →
      ((∀ id n ms, s.wire.feeder ≠ .feeding id n (.running ms)) →
        exec .cutDone s = .next { s with out := [] } ∧ exec .feedTimerExpiry s = .next { s with out := [] })
      ∧ ∀ id n ms, s.wire.feeder = .feeding id n (.running ms) →
        ((∀ b, s.books.find? (fun b => b.id == id) = some b → b.state ≠ .spoiled) →
          exec .cutDone s = .next
            (State.judgeCloser { s with out := [], wire := { s.wire with feeder := .cutReady id n } }))
        ∧ (∀ b, s.books.find? (fun b => b.id == id) = some b → b.state = .spoiled →
          exec .cutDone s = .next
            ((State.sweep { s with out := [], wire := { s.wire with feeder := .idle } }).wireStart))
        ∧ exec .feedTimerExpiry s = .next
            (State.halt { s with out := [], wire := { s.wire with feeder := .feeding id n .timedOut } } .feedFault))
  ∧ (∀ (s : State),
      (s.wire.feeder ≠ .idle ∨ s.tray = .empty → s.wireStart = s)
      ∧ ∀ id, s.wire.feeder = .idle → s.tray.book? = some id →
        (s.books.find? (fun b => b.id == id) = none → s.wireStart = s)
        ∧ ∀ b, s.books.find? (fun b => b.id == id) = some b →
          s.wireStart = if b.state = .spoiled then s else s.startCut b true)
  ∧ (∀ (s : State) (b : Book) (n : Nat) (first : Bool), b.tBook = some n →
      (n ≤ s.wire.spool →
        s.startCut b first =
          { s with
            wire := { s.wire with feeder := .feeding b.id n (.running 0), spool := s.wire.spool - n }
            out := s.out ++ [.wireCut n (b.hanger == .hook)]
            notices := entered s.notices
              (if 0 < s.wire.lowMark ∧ s.wire.lowMark ≤ s.wire.spool ∧ s.wire.spool - n < s.wire.lowMark then
                [{ kind := .wireLow, reason := none, book := b.id, seq := 0, value := min (s.wire.spool - n) 65535 }]
              else []) })
      ∧ (s.wire.spool < n →
        s.startCut b first =
          { s with
            wire := { s.wire with feeder := .waitingWire b.id }
            notices := entered s.notices
              (if first then [{ kind := .wireOut, reason := none, book := b.id, seq := 0, value := n }] else []) }))

/-- SET_WIRE_SUPPLY (R143): a wrong length is refused; else the values are taken as clamped, a waiting feeder starts
again, the Closer judges, and the reply carries what stands after that. A waiting book that is not held starts nothing,
and one without a T_book would take 0 loops: stand-ins for states no run reaches (log 15). -/
def Obligations.WireSupplySet : Prop :=
  ∀ (s : State) (tag : Byte) (body : List Byte), Attending s →
    (body.length ≠ 10 → exec (.setWireSupply tag body) s = .next (refused s 0x1D tag .badLength))
    ∧ (body.length = 10 →
      let taken : State := { heard s with
        wire := { s.wire with
          spool := min (u32 body 0) 1000000, lowMark := min (u32 body 4) 1000000, hooks := min (u16 body 8) 9999 } }
      let t : State :=
        (match s.wire.feeder with
          | .waitingWire id =>
            match s.book? id with
            | some b => taken.startCut b false
            | none => taken
          | _ => taken).judgeCloser
      exec (.setWireSupply tag body) s = .next (answered t 0x1D tag .ok
        (le32 t.wire.spool ++ le32 t.wire.lowMark ++ le16 t.wire.hooks ++ [t.wire.feeder.code])))

/-- The LANE head at an OPEN (R72, R135, R136): no head or an away head hands nothing over; a spoiled book's head is
dumped; else it is stacked on an EMPTY tray or on its own book's, and waits before any other. On an EMPTY tray the Wire
Feed starts for the book when the feeder is IDLE and not otherwise (R139). -/
def Obligations.HeadOffered : Prop :=
  ∀ (s : State),
    (s.track.lane = [] → s.handOver = s)
    ∧ ∀ e rest, s.track.lane = e :: rest →
      let id := e.sheet.book
      (e.away = true → s.handOver = s)
      ∧ ∀ b, e.away = false → s.books.find? (fun b => b.id == id) = some b →
        (b.state = .spoiled →
          s.handOver = State.judgeDrainEnd (State.sweep
            { s with
              track := { s.track with lane := rest }
              books := s.books.map fun x => if x.id = id then { x with dumped := x.dumped + 1 } else x
              out := s.out ++ [.flap true] }))
        ∧ (b.state ≠ .spoiled → s.tray ≠ .empty → s.tray ≠ .building id → s.handOver = s)
        ∧ (b.state ≠ .spoiled → s.tray = .building id → b.stacked + 1 ≠ b.leaves.length →
          s.handOver = State.judgeDrainEnd
            { s with
              track := { s.track with lane := rest }
              books := s.books.map fun x => if x.id = id then { x with stacked := x.stacked + 1 } else x })
        ∧ (b.state ≠ .spoiled → s.tray = .building id → b.stacked + 1 = b.leaves.length →
          s.handOver = State.judgeDrainEnd (State.judgeCloser
            { s with
              track := { s.track with lane := rest }, tray := .complete id
              books := s.books.map fun x =>
                if x.id = id then { x with stacked := x.stacked + 1, state := .stacked } else x }))
        ∧ (b.state ≠ .spoiled → s.tray = .empty →
          let laid : State :=
            { s with
              track := { s.track with lane := rest }, tray := .building id
              books := s.books.map fun x => if x.id = id then { x with stacked := x.stacked + 1 } else x }
          let opened : State :=
            if s.wire.feeder = .idle then laid.startCut { b with stacked := b.stacked + 1 } true else laid
          (b.stacked + 1 ≠ b.leaves.length → s.handOver = opened.judgeDrainEnd)
          ∧ (b.stacked + 1 = b.leaves.length →
            s.handOver = State.judgeDrainEnd (State.judgeCloser
              { opened with
                tray := .complete id
                books := s.books.map fun x =>
                  if x.id = id then { x with stacked := x.stacked + 1, state := .stacked } else x })))

/-- The Closer's judgement (R144 to R146): the close starts when every requirement holds; a HOOK book with no hook begins
one hook wait, with HOOKS_OUT; else nothing happens. CLOSE_DONE and CLOSE_LIMIT_EXPIRY (R147, R18): ignored unless a
close runs; CLOSE_DONE raises BOOK_BOUND with the T_book and removes the record; the limit halts the line with
CLOSE_FAULT. That a close limit with no close running comes to nothing is the model's reading (log 5); the close limit of
an empty format slot is 0, a stand-in for states no run reaches (log 15). -/
def Obligations.CloserTaken : Prop :=
  (∀ (s : State),
      ((∀ id n, ¬ (s.tray = .complete id ∧ s.closer.mode = .idle ∧ s.wire.feeder = .cutReady id n)) →
        s.judgeCloser = s)
      ∧ (s.line.mode = .halted → s.judgeCloser = s)
      ∧ ∀ id n b, s.tray = .complete id → s.closer.mode = .idle → s.wire.feeder = .cutReady id n →
        s.line.mode ≠ .halted → s.books.find? (fun b => b.id == id) = some b →
        (b.hanger = .hook → s.wire.hooks = 0 →
          s.judgeCloser =
            if s.closer.hookWait then s
            else
              { s with
                closer := { s.closer with hookWait := true }
                notices := entered s.notices
                  [{ kind := .hooksOut, reason := none, book := id, seq := 0, value := 0 }] })
        ∧ (b.hanger ≠ .hook ∨ 0 < s.wire.hooks →
          s.judgeCloser =
            { s with
              books := s.books.map fun x => if x.id = id then { x with state := .closing } else x
              wire := { s.wire with
                feeder := .idle, hooks := if b.hanger = .hook then s.wire.hooks - 1 else s.wire.hooks }
              tray := .empty
              closer :=
                { mode := .closing id (((s.formats.getD b.slot none).map (·.closeLimit)).getD 0) (.running 0)
                  hookWait := false }
              out := s.out ++ [.closeGo] }))
  ∧ (∀ (s : State), s.resetLow = false →
      ((∀ id l ms, s.closer.mode ≠ .closing id l (.running ms)) →
        exec .closeDone s = .next { s with out := [] } ∧ exec .closeLimitExpiry s = .next { s with out := [] })
      ∧ ∀ id l ms, s.closer.mode = .closing id l (.running ms) →
        (∀ b n, s.books.find? (fun b => b.id == id) = some b → b.tBook = some n →
          exec .closeDone s = .next (State.judgeCloser
            { s with
              out := [], books := s.books.filter fun x => !(x.id == id)
              closer := { s.closer with mode := .idle }
              notices := entered s.notices
                [{ kind := .bookBound, reason := none, book := id, seq := 0, value := n }] }))
        ∧ exec .closeLimitExpiry s = .next
            (State.halt { s with out := [], closer := { s.closer with mode := .closing id l .timedOut } } .closeFault))

/-! ### The line -/

/-- RUN (R151, R87) and DRAIN (R152, R153): the states they are taken in, and what they do. Then the end of a drain
wherever it is judged (R153, R87): in DRAINING with the track empty and no permit standing, and never otherwise. The
entry to DRAINING, the same whatever its cause (R152): LINE_STATE, the watch timer stopped, a PENDING boundary drain
ended, all else as it stood, and the end of the drain judged. -/
def Obligations.RunAndDrainJudged : Prop :=
  (∀ (s : State),
    (¬ (s.line.mode = .draining ∧ s.track.count = 0 ∧ s.track.permit = none) → s.judgeDrainEnd = s)
    ∧ (s.line.mode = .draining → s.track.count = 0 → s.track.permit = none →
      s.judgeDrainEnd =
        { s with
          line := { s.line with mode := .ready }
          cycle :=
            { s.cycle with
              hold := .heldClear, count := 0, stroke := [], outstanding := false, chain := [], staged := none
              active := match s.cycle.staged with | some p => p | none => s.cycle.active }
          out := s.out ++ [.pinLoad []]
          notices := entered s.notices
            [{ kind := .lineState, reason := none, book := 0, seq := 0, value := 1 + 256 * 3 }] }))
  ∧ (∀ (s : State), s.line.mode ≠ .draining →
      s.enterDraining = State.judgeDrainEnd
        { s with
          line := { s.line with mode := .draining, watchTimer := .stopped, boundary := false }
          notices := entered s.notices
            [{ kind := .lineState, reason := none, book := 0, seq := 0, value := 3 + 256 * s.line.mode.code }] })
  ∧ ∀ (s : State) (tag : Byte) (body : List Byte), Attending s →
    exec (.run tag body) s = .next
      (if body.length ≠ 0 then refused s 0x03 tag .badLength
      else if s.line.mode = .ready then
        answered
          { heard s with
            line := { s.line with
              mode := .running
              watchTimer := if 0 < s.line.watchPeriod then .running s.line.watchPeriod else .stopped }
            cycle := { s.cycle with hold := .released }
            notices := entered s.notices
              [{ kind := .lineState, reason := none, book := 0, seq := 0, value := 2 + 256 * 1 }] }
          0x03 tag .ok []
      else refused s 0x03 tag .wrongState)
    ∧ exec (.drain tag body) s = .next
      (if body.length ≠ 0 then refused s 0x04 tag .badLength
      else if s.line.mode = .running then
        (if s.track.count = 0 ∧ s.track.permit = none then
          answered
            { heard s with
              line := { s.line with mode := .ready, watchTimer := .stopped, boundary := false }
              cycle :=
                { s.cycle with
                  hold := .heldClear, count := 0, stroke := [], outstanding := false, chain := [], staged := none
                  active := match s.cycle.staged with | some p => p | none => s.cycle.active }
              out := [.pinLoad []]
              notices := entered s.notices
                [{ kind := .lineState, reason := none, book := 0, seq := 0, value := 3 + 256 * 2 },
                 { kind := .lineState, reason := none, book := 0, seq := 0, value := 1 + 256 * 3 }] }
            0x04 tag .ok []
        else
          answered
            { heard s with
              line := { s.line with mode := .draining, watchTimer := .stopped, boundary := false }
              notices := entered s.notices
                [{ kind := .lineState, reason := none, book := 0, seq := 0, value := 3 + 256 * 2 }] }
            0x04 tag .ok [])
      else refused s 0x04 tag .wrongState)

/-- A halt cause (R154, R77, R87, R127): the halt in full, the drill's part by its state; a second cause while HALTED
enters a further HALT event and changes nothing else. -/
def Obligations.HaltTaken : Prop :=
  ∀ (s : State) (c : HaltCause),
    (s.line.mode = .halted →
      s.halt c =
        { s with
          notices := entered s.notices
            [{ kind := .halt, reason := some c.reason, book := 0, seq := 0, value := 4 }] })
    ∧ (s.line.mode ≠ .halted →
      s.halt c =
        { s with
          line := { s.line with mode := .halted, haltCause := some c, watchTimer := .stopped, boundary := false }
          cycle :=
            { s.cycle with
              hold := .heldInPlace, staged := none
              active := match s.cycle.staged with | some p => p | none => s.cycle.active }
          track := { s.track with permit := none, feedPermit := false }
          drill :=
            match s.drill.mode, s.drill.hole with
            | .drilling, .running _ => { s.drill with mode := .suspendPending .halt }
            | _, _ => s.drill
          books := s.books.filter fun b => !(State.removable { s with track := s.track.noPermit } b)
          notices := entered s.notices
            [{ kind := .halt, reason := some c.reason, book := 0, seq := 0, value := s.line.mode.code },
             { kind := .lineState, reason := none, book := 0, seq := 0, value := 4 + 256 * s.line.mode.code }] })

/-- STOP (R155, R20, R44, R79, R87, R130, R148): the part after the purge, and its outputs: the empty load of the pin
chain, and FLAP with no sheet in delivery exactly when the tray book is purged (R137, R148). The order of the events
inside the step is the model's reading (log 18), and so are that the setpoints stay (log 11) and the order of the two
outputs (log 10). -/
def Obligations.StopPurges : Prop :=
  ∀ (s : State) (tag : Byte), Attending s → BooksDistinct s →
    (∀ b ∈ s.books, s.closer.mode.book? = some b.id → b.state = .closing) →
    let timedOut (id : Nat) := ∃ l, s.closer.mode = .closing id l .timedOut
    let purged (b : Book) : Bool := b.state == .feeding || b.state == .fed || b.state == .stacked
      || (b.state == .closing && s.closer.mode.timedOutFor b.id)
    let rest : Mode := if s.die?.isSome then .ready else .noDie
    (∀ body, body ≠ [] → exec (.stop tag body) s = .next (refused s 0x05 tag .badLength))
    ∧ ∃ t, exec (.stop tag []) s = .next (answered t 0x05 tag .ok [])
      ∧ t.line =
          { s.line with
            mode := rest, haltCause := none, watchTimer := .stopped, boundary := false }
      ∧ t.cycle =
          { s.cycle with
            hold := .heldClear, count := 0, stroke := [], outstanding := false, chain := [], staged := none
            active := match s.cycle.staged with | some p => p | none => s.cycle.active }
      ∧ t.track =
          { reg := none, punch := none, notch := none, lane := [], permit := none, feedPermit := false
            diverter := .bin }
      ∧ t.arrival = { s.arrival with window := .closed, conversion := none }
      ∧ t.drill =
          { s.drill with mode := .idle, board := none, index := 0, hole := .none, resume := none }
      ∧ t.tray = .empty ∧ t.wire = { s.wire with feeder := .idle }
      ∧ (∀ id : Nat, timedOut id → t.closer.mode = .idle) ∧ ((∀ id, ¬ timedOut id) → t.closer.mode = s.closer.mode)
      ∧ t.closer.hookWait = false
      ∧ t.out = .pinLoad [] :: (if ∃ b ∈ s.books, s.tray.book? = some b.id ∧ purged b then [.flap false] else [])
      ∧ (∀ b : Book, b ∈ t.books ↔ b ∈ s.books ∧ (b.state = .queued ∨ (b.state = .closing ∧ ¬ timedOut b.id)))
      ∧ (t.books.map (·.id)).Sublist (s.books.map (·.id))
      ∧ (∃ spoils : List Event, t.notices = entered s.notices (spoils ++
            if s.line.mode = rest then []
            else [{ kind := .lineState, reason := none, book := 0, seq := 0
                    value := rest.code + 256 * s.line.mode.code }])
          ∧ spoils.map (·.book) = (s.books.filter purged).map (·.id)
          ∧ ∀ e ∈ spoils, e.kind = .bookSpoiled ∧ e.reason = some .purged ∧ e.seq = 0 ∧ e.value = 0)
      ∧ t.formats = s.formats ∧ t.die = s.die ∧ t.link = s.link ∧ t.setpoints = s.setpoints
      ∧ t.draws = s.draws ∧ t.pending = s.pending ∧ t.resetLow = s.resetLow

/-- SET_WATCH (R156) and WATCH_TIMER_EXPIRY (R157). That the expiry of a STOPPED timer comes to nothing is the model's
reading (log 5), and so is that SET_WATCH restarts the timer while a boundary drain is PENDING (log 23). -/
def Obligations.WatchTaken : Prop :=
  ∀ (s : State), s.resetLow = false →
    (∀ tag body, s.link.answering = .idle →
      let period := u16 body 0
      let held := if period = 0 then 0 else if period < 100 then 100 else min period 10000
      let line (mode : WatchMode) : Line :=
        { s.line with
          watchPeriod := held, watchMode := mode
          watchTimer := if s.line.mode = .running then (if 0 < held then .running held else .stopped)
            else s.line.watchTimer }
      exec (.setWatch tag body) s = .next
        (if body.length ≠ 3 then refused s 0x1E tag .badLength
        else if u8 body 2 = 0 then
          answered { heard s with line := line .atOnce } 0x1E tag .ok (le16 held ++ [0])
        else if u8 body 2 = 1 then
          answered { heard s with line := line .atBoundary } 0x1E tag .ok (le16 held ++ [1])
        else refused s 0x1E tag .badValue))
    ∧ (s.line.watchTimer = .stopped → exec .watchTimerExpiry s = .next { s with out := [] })
    ∧ ∀ left, s.line.watchTimer = .running left →
      let expired : State :=
        { s with
          out := [], line := { s.line with watchTimer := .stopped }
          notices := entered s.notices
            [{ kind := .watchExpired, reason := none, book := 0, seq := 0, value := s.line.watchPeriod }] }
      (s.line.watchMode = .atBoundary →
        exec .watchTimerExpiry s = .next
          { expired with line := { s.line with watchTimer := .stopped, boundary := true } })
      ∧ (s.line.watchMode = .atOnce →
        exec .watchTimerExpiry s = .next
          (State.enterDraining { expired with track := { s.track with feedPermit := false } }))

/-- The codes of R176 for the kinds of events, the reasons, the line states and the first-error code. How an event is
entered (R158), and READ_EVENTS (R159): the oldest entries are answered and removed, and ATTN is released when none is
left. READ_LINK_ERRORS (R174): the reply carries the count and the code as they stand, and the clear flag returns both to
0 and NONE after it. -/
def Obligations.EventsAndErrorsRead : Prop :=
  ((∀ k : EventKind, (k, k.code) ∈ ([(.lineState, 0x01), (.dieMounted, 0x02), (.dieRefused, 0x03), (.dieRemoved, 0x04),
      (.sheetRejected, 0x05), (.bookSpoiled, 0x06), (.bookBound, 0x07), (.pinWorn, 0x08), (.bitDue, 0x09),
      (.wireLow, 0x0A), (.wireOut, 0x0B), (.hooksOut, 0x0C), (.drillSuspended, 0x0D), (.drillResumed, 0x0E),
      (.halt, 0x0F), (.watchExpired, 0x10), (.eventsLost, 0x11)] : List (EventKind × Byte)))
    ∧ reasonCode none = 0
    ∧ (∀ r : Reason, (r, reasonCode (some r)) ∈ ([(.width, 0x01), (.noGauge, 0x02), (.skew, 0x03), (.doubleFeed, 0x04),
      (.thin, 0x05), (.markMissing, 0x06), (.markMismatch, 0x07), (.pitch, 0x08), (.margin, 0x09), (.outOfReach, 0x0A),
      (.pinUnavailable, 0x0B), (.noNotch, 0x0C), (.notchReach, 0x0D), (.carriageLate, 0x0E), (.spoiledBook, 0x10),
      (.cancelled, 0x11), (.purged, 0x12), (.drillAbort, 0x13), (.jam, 0x20), (.straySheet, 0x21), (.dieRemoved, 0x22),
      (.drillFault, 0x23), (.closeFault, 0x24), (.feedFault, 0x25)] : List (Reason × Byte)))
    ∧ (∀ c : HaltCause, (c, c.reason) ∈ ([(.jam, .jam), (.straySheet, .straySheet), (.dieRemoved, .dieRemoved),
      (.drillFault, .drillFault), (.closeFault, .closeFault), (.feedFault, .feedFault)] : List (HaltCause × Reason)))
    ∧ (∀ m : Mode, (m, m.code) ∈
      ([(.noDie, 0), (.ready, 1), (.running, 2), (.draining, 3), (.halted, 4)] : List (Mode × Nat)))
    ∧ (∀ e : LinkError, (e, e.code) ∈ ([(.noise, 1), (.framing, 2), (.badLength, 3), (.truncated, 4), (.crc, 5),
      (.overrun, 6)] : List (LinkError × Byte))))
  ∧
  ((∀ (q : List Event) (e : Event),
      (q.length ≤ 30 → enter q e = q ++ [e])
      ∧ (q.length = 31 →
          enter q e = q ++ [{ kind := .eventsLost, reason := none, book := 0, seq := 0, value := 1 }])
      ∧ (∀ older last, q = older ++ [last] → 32 ≤ q.length →
          enter q e = older ++ [{ last with value := if last.value < 65535 then last.value + 1 else 65535 }]))
    ∧ ∀ (s : State) (tag : Byte) (body : List Byte), Attending s →
      let read := s.notices.queue.take (u8 body 0)
      let rest := s.notices.queue.drop (u8 body 0)
      exec (.readEvents tag body) s = .next
        (if body.length ≠ 1 then refused s 0x20 tag .badLength
        else if u8 body 0 = 0 ∨ 32 < u8 body 0 then refused s 0x20 tag .badValue
        else
          answered { heard s with notices := { queue := rest, attn := if rest = [] then false else s.notices.attn } }
            0x20 tag .ok
            (byte read.length :: (read.map fun e =>
              [e.kind.code, reasonCode e.reason] ++ le16 e.book ++ le16 e.seq ++ le16 e.value).flatten)))
  ∧ (∀ (s : State) (tag : Byte) (body : List Byte), Attending s →
      let reply := [byte s.link.errors, match s.link.firstError with | none => 0 | some e => e.code]
      exec (.readLinkErrors tag body) s = .next
        (if body.length ≠ 1 then refused s 0x21 tag .badLength
        else if 1 < u8 body 0 then refused s 0x21 tag .badValue
        else if u8 body 0 = 1 then
          answered { heard s with link := { s.link with errors := 0, firstError := none } } 0x21 tag .ok reply
        else answered (heard s) 0x21 tag .ok reply))

/-- The requests without a body that read (R160, R80, R85, R116) change nothing, and what each answers; of READ_TRACK the
sheet entries too, byte by byte. First, the codes of R176 that they carry; those of the reasons and line states are in
`Obligations.EventsAndErrorsRead`. -/
def Obligations.BodylessReadsAnswered : Prop :=
  ((∀ x : Hold, (x, x.code) ∈ ([(.released, 0), (.heldClear, 1), (.heldInPlace, 2)] : List (Hold × Byte)))
    ∧ (∀ x : DrillMode, x.code = match x with
      | .idle => 0 | .drilling => 1 | .suspendPending _ => 2 | .suspended _ => 3 | .aborting => 4)
    ∧ (∀ x : Feeder, x.code = match x with | .idle => 0 | .feeding _ _ _ => 1 | .cutReady _ _ => 2 | .waitingWire _ => 3)
    ∧ (∀ x : DieIface, x.code = match x with | .empty => 0 | .mounting => 1 | .mounted _ _ => 2 | .refused => 3)
    ∧ (∀ x : DieCheck, (x, x.number) ∈ ([(.noResponse, 1), (.signature, 2), (.revision, 3), (.headerCount, 4),
      (.length, 5), (.crc, 6), (.tableForm, 7), (.noPinTable, 8), (.pinValue, 9), (.notchValue, 10),
      (.retiredValue, 11)] : List (DieCheck × Nat)))
    ∧ (∀ x : WatchMode, (x, x.code) ∈ ([(.atOnce, 0), (.atBoundary, 1)] : List (WatchMode × Byte)))
    ∧ (∀ x : WatchTimer, x.code = match x with | .stopped => 0 | .running _ => 1)
    ∧ (∀ x : StartCause, (x, x.code) ∈
      ([(.powerOn, 1), (.resetPin, 2), (.restartRequest, 3)] : List (StartCause × Byte)))
    ∧ (∀ x : Diverter, (x, x.code) ∈ ([(.bin, 0), (.lane, 1), (.drill, 2)] : List (Diverter × Byte)))
    ∧ flagByte false = 0 ∧ flagByte true = 1)
  ∧
  ∀ (s : State) (tag : Byte) (body : List Byte), Attending s →
    let l := (heard s).line
    let orAbsent (n : Option Nat) : List Byte := match n with | none => [0xFF, 0xFF] | some n => le16 n
    let entry (location : Byte) (away : Bool) (x : Sheet) : List Byte :=
      le16 x.seq ++ le16 x.book
        ++ [byte x.leaf, (match x.role with | .cover => 1 | .leaf => 2 | .back => 3),
            (match x.route with | .punch => 1 | .drill => 2 | .reject => 3), location,
            byte ((if away then 1 else 0) + (if x.mark.isSome then 2 else 0) + (if x.notchDone then 4 else 0))]
        ++ orAbsent (x.edges.map (·.l)) ++ orAbsent (x.edges.map (·.r)) ++ [byte x.skew] ++ orAbsent x.caliper
        ++ (match x.mark with | none => [0, 0] | some m => [byte m.leaf, byte m.tag])
        ++ (match x.plan with
            | none => [0, 0, 0, 0, 0, 0xFF, 0xFF]
            | some p =>
              [match p.state with | .ready => 1 | .discarded => 2 | .applied => 3]
                ++ match p.body with
                  | .punched q =>
                    [byte q.t, byte q.k0] ++ le16 (q.shift % 65536).toNat ++ orAbsent q.notch
                  | .board q => [byte q.t, 0, 0, 0, 0xFF, 0xFF])
        ++ [byte x.holesDrilled, reasonCode x.reason, 0]
    let profile (p : Profile) : List Byte := le16 p.lc ++ le16 p.pc ++ le16 p.po ++ le16 p.pa
    let reads (kind : Byte) (reply : List Byte) : State :=
      if body.length ≠ 0 then refused s kind tag .badLength else answered (heard s) kind tag .ok reply
    exec (.identify tag body) s = .next (reads 0x01
      [0x0F, 0x04, 2, s.line.startCause.code, flagByte s.die?.isSome, byte s.link.errors])
    ∧ exec (.readStatus tag body) s = .next (reads 0x02
      ([byte l.mode.code, reasonCode (l.haltCause.map HaltCause.reason)] ++ le16 l.watchPeriod
        ++ [l.watchMode.code, l.watchTimer.code, flagByte l.boundary]
        ++ le16 s.cycle.count ++ [s.cycle.hold.code] ++ le16 s.cycle.active.lc ++ [flagByte s.cycle.staged.isSome]
        ++ le32 s.cycle.totalStrokes
        ++ [byte s.books.length, byte s.track.sheets.length, byte s.track.lane.length]
        ++ le16 (match s.tray with | .empty => 0 | .building id => id | .complete id => id)
        ++ [s.drill.mode.code, match s.drill.hole with | .timedOut => 1 | _ => 0, s.wire.feeder.code]
        ++ le32 s.wire.spool ++ le16 s.wire.hooks))
    ∧ exec (.readTrack tag body) s = .next (reads 0x0D
      ([byte s.track.sheets.length, byte s.track.lane.length, flagByte s.track.permit.isSome]
        ++ le16 ((s.track.permit.map (·.book)).getD 0) ++ [byte ((s.track.permit.map (·.leaf)).getD 0)]
        ++ [flagByte s.track.feedPermit, s.track.diverter.code]
        ++ (s.track.reg.toList.map (entry 1 false)).flatten ++ (s.track.punch.toList.map (entry 2 false)).flatten
        ++ (s.track.notch.toList.map (entry 3 false)).flatten
        ++ (s.track.lane.map fun e => entry (if e.away then 5 else 4) e.away e.sheet).flatten))
    ∧ exec (.readProfile tag body) s = .next (reads 0x11
      (profile s.cycle.active ++ [flagByte s.cycle.staged.isSome]
        ++ (match s.cycle.staged with | none => [0, 0, 0, 0, 0, 0, 0, 0] | some p => profile p)
        ++ le16 s.cycle.count ++ [s.cycle.hold.code, flagByte s.cycle.outstanding, byte s.cycle.stroke.length]
        ++ le32 s.cycle.totalStrokes))
    ∧ exec (.readDie tag body) s = .next (reads 0x18
      ([s.die.iface.code, byte ((s.die.lastRefusal.map DieCheck.number).getD 0)]
        ++ match s.die? with
          | none => List.replicate 34 0
          | some d =>
            [byte d.minor, byte d.n] ++ le16 d.p ++ le16 d.d0 ++ le16 d.maxLift ++ le16 d.pinLife
              ++ [flagByte d.notch.isSome] ++ le16 ((d.notch.map (·.reachMin)).getD 0)
              ++ le16 ((d.notch.map (·.reachMax)).getD 0) ++ le16 ((d.notch.map (·.maxCaliper)).getD 0)
              ++ [byte d.retired.length]
              ++ (List.range 16).map fun i => byte (d.retired.getD i 0)))

/-- The restarts (R161, R163, R101, R87): every value is that of State.reset but the start cause, the link rate, the
level of the contact with the read of a seated die, the empty load of the pin chain, and the model's own queue and draws
(log 22). The model's choices here are: a command given with RESET_N low does nothing but for the contact's level (log
2); the contact's level stands over RESET_N and RESTART (log 8); the rate while RESET_N is low (log 13); POWER_ON with
RESET_N low (log 25); the load of the chain at the completion of the restart (log 27). RESTART answers OK and restarts
when the last byte of that reply is sent. -/
def Obligations.RestartsTaken : Prop :=
  let rate (x : Straps) : Rate :=
    if x.rate1 then (if x.rate0 then .baud460800 else .baud230400)
    else if x.rate0 then .baud115200 else .baud57600
  let fresh (s : State) (cause : StartCause) (r : Rate) (contact low : Bool) : State :=
    { State.reset with
      pending := s.pending, draws := s.draws, resetLow := low
      link := { State.reset.link with rate := r }
      line := { State.reset.line with startCause := cause }
      die := { State.reset.die with contact := contact, iface := if contact && !low then .mounting else .empty }
      out := if low then [] else if contact then [.pinLoad [], .descriptorRead 0x52] else [.pinLoad []] }
  (∀ s x contact, exec (.powerOn x contact false) s = .next (fresh s .powerOn (rate x) contact false))
  ∧ (∀ s x contact, exec (.powerOn x contact true) s = .next (fresh s .powerOn (rate x) contact true))
  ∧ (∀ s, s.resetLow = false → exec .resetN s = .next (fresh s .resetPin s.link.rate s.die.contact true))
  ∧ (∀ s x, s.resetLow = true → exec (.resetNRelease x) s = .next (fresh s s.line.startCause (rate x) s.die.contact false))
  ∧ (∀ s x, s.resetLow = false → exec (.resetNRelease x) s = .next { s with out := [] })
  ∧ (∀ s tag body, Attending s → exec (.restart tag body) s = .next
      (if body.length ≠ 0 then refused s 0x06 tag .badLength else answered (heard s) 0x06 tag .ok []))
  ∧ (∀ s x r n, s.resetLow = false → s.link.answering = .sending r n → r.kind = 0x86 → r.status = .ok →
      exec (.replySent x) s = .next (fresh s .restartRequest (rate x) s.die.contact false))
  ∧ (∀ c s, s.resetLow = true → (∀ x contact low, c ≠ .powerOn x contact low) → (∀ x, c ≠ .resetNRelease x) →
      c ≠ .diePresentCloses → c ≠ .diePresentOpens → exec c s = .next { s with out := [] })
  ∧ (∀ s, s.resetLow = true →
      exec .diePresentCloses s = .next { s with out := [], die := { s.die with contact := true } }
      ∧ exec .diePresentOpens s = .next { s with out := [], die := { s.die with contact := false } })

/-! ### The message link -/

/-- RX_BYTE (R164 to R168): a request frame is the start byte, the length, the kind, the tag, the body and the check code
over all but the start byte. Sent byte by byte to a receiver in HUNT it has exactly the effect of its good frame, with the
receiver back in HUNT, its noise run closed and the silence timer just started. -/
def Obligations.ReceiverAssemblesFrame : Prop :=
  (∀ (f : Frame),
    let covered := le16 (f.body.length + 2) ++ [f.kind, f.tag] ++ f.body
    f.bytes = [0xC3] ++ covered ++ le16 (crc covered).toNat)
  ∧ ∀ (s : State) (f : Frame), s.resetLow = false → s.link.receiver = .hunt → f.body.length ≤ 510 →
    (f.bytes.foldl (fun (o : Result) b => match o with | .next t => exec (.rxByte b) t | o => o) (.next s)) =
      .next (State.goodFrame
        { s with
          out := []
          link := { s.link with receiver := .hunt, noiseOpen := false, silence := .running 0 } }
        f)

/-- RX_BYTE, FRAMING_ERROR and SILENCE_TIMER_EXPIRY in each receiver state (R166 to R170): in IN_FRAME a first and a
second length byte, a byte before the last of the frame, and a last byte whose check code agrees or does not. That the
expiry of a STOPPED silence timer comes to nothing is the model's reading (log 5). -/
def Obligations.ReceiverTakes : Prop :=
  ∀ (s : State), s.resetLow = false →
    let counted (e : LinkError) (r : Receiver) (noise : Bool) (silence : Silence) : State :=
      { s with
        out := []
        link := { s.link with
          receiver := r, noiseOpen := noise, silence := silence
          errors := if s.link.errors < 255 then s.link.errors + 1 else s.link.errors
          firstError := match s.link.firstError with | none => some e | some x => some x } }
    let plain (r : Receiver) (noise : Bool) (silence : Silence) : State :=
      { s with out := [], link := { s.link with receiver := r, noiseOpen := noise, silence := silence } }
    (∀ b, s.link.receiver = .hunt → exec (.rxByte b) s = .next
      (if b = 0xC3 then plain (.inFrame []) false (.running 0)
      else if s.link.noiseOpen then plain .hunt true (.running 0)
      else counted .noise .hunt true (.running 0)))
    ∧ (∀ b, s.link.receiver = .discard → exec (.rxByte b) s = .next (plain .discard s.link.noiseOpen (.running 0)))
    ∧ (∀ b, s.link.receiver = .inFrame [] →
        exec (.rxByte b) s = .next (plain (.inFrame [b]) s.link.noiseOpen (.running 0)))
    ∧ (∀ b lo, s.link.receiver = .inFrame [lo] → exec (.rxByte b) s = .next
      (if 2 ≤ lo.toNat + 256 * b.toNat ∧ lo.toNat + 256 * b.toNat ≤ 512 then
        plain (.inFrame [lo, b]) s.link.noiseOpen (.running 0)
      else counted .badLength .discard s.link.noiseOpen (.running 0)))
    ∧ (∀ b bytes, s.link.receiver = .inFrame bytes → 2 ≤ bytes.length → bytes.length < u16 bytes 0 + 3 →
        exec (.rxByte b) s = .next (plain (.inFrame (bytes ++ [b])) s.link.noiseOpen (.running 0)))
    ∧ (∀ b bytes, s.link.receiver = .inFrame bytes → bytes.length = u16 bytes 0 + 3 → 2 ≤ u16 bytes 0 →
        (crc (bytes.take (u16 bytes 0 + 2))).toNat = u16 (bytes ++ [b]) (u16 bytes 0 + 2) →
        exec (.rxByte b) s = .next (State.goodFrame (plain .hunt s.link.noiseOpen (.running 0))
          { kind := bytes.getD 2 0, tag := bytes.getD 3 0, body := (bytes.drop 4).take (u16 bytes 0 - 2) }))
    ∧ (∀ b bytes, s.link.receiver = .inFrame bytes → bytes.length = u16 bytes 0 + 3 →
        2 ≤ bytes.length → (crc (bytes.take (u16 bytes 0 + 2))).toNat ≠ u16 (bytes ++ [b]) (u16 bytes 0 + 2) →
        exec (.rxByte b) s = .next (counted .crc .hunt s.link.noiseOpen (.running 0)))
    ∧ exec .framingError s = .next
      (match s.link.receiver with
        | .hunt => counted .framing .discard false (.running 0)
        | .inFrame _ => counted .framing .discard s.link.noiseOpen (.running 0)
        | .discard => plain .discard s.link.noiseOpen (.running 0))
    ∧ (s.link.silence = .stopped → exec .silenceTimerExpiry s = .next { s with out := [] })
    ∧ (∀ ms, s.link.silence = .running ms → exec .silenceTimerExpiry s = .next
      (match s.link.receiver with
        | .hunt => plain .hunt s.link.noiseOpen .stopped
        | .inFrame _ => counted .truncated .hunt s.link.noiseOpen .stopped
        | .discard => plain .hunt s.link.noiseOpen .stopped))

/-- A good frame and the answering side (R167, R171 to R173): the command of a kind, known or not, is the good frame of
that kind; an unknown kind is refused; while a reply is sent the frame takes the empty slot, or is dropped with OVERRUN;
the end of a reply dispatches the frame in the slot, of a known kind or not, without a further restart of the watch,
which its arrival restarted (R156, R167). What a dispatch does is what the command of its kind does in an attending part.
That the end of a reply with none in transmission comes to nothing is the model's reading (log 5). -/
def Obligations.AnsweringSideTakes : Prop :=
  ∀ (s : State), s.resetLow = false →
    (∀ kind tag body c, (kind, c) ∈ requests tag body ∨ c = .unknownKind kind tag body →
      exec c s = .next (State.goodFrame { s with out := [] } { kind := kind, tag := tag, body := body }))
    ∧ (∀ kind tag body, s.link.answering = .idle → kindOf kind = none →
      exec (.unknownKind kind tag body) s = .next
        { heard s with
          link := { s.link with
            answering := .sending
              { kind := if kind.toNat < 128 then kind + 0x80 else kind, tag := tag, status := .unknownKind
                eventCount := s.notices.queue.length, mode := s.line.mode, body := [] } 10 } })
    ∧ (∀ r n kind tag body c, s.link.answering = .sending r n →
        (kind, c) ∈ requests tag body ∨ (c = .unknownKind kind tag body) →
        (s.link.slot = none → exec c s = .next
          { heard s with link := { s.link with slot := some { kind := kind, tag := tag, body := body } } })
        ∧ (∀ f, s.link.slot = some f → exec c s = .next
          { heard s with
            link := { s.link with
              errors := if s.link.errors < 255 then s.link.errors + 1 else s.link.errors
              firstError := match s.link.firstError with | none => some .overrun | some x => some x } }))
    ∧ (∀ x, s.link.answering = .idle → exec (.replySent x) s = .next { s with out := [] })
    ∧ (∀ x r n, s.link.answering = .sending r n → ¬ (r.kind = 0x86 ∧ r.status = .ok) → s.link.slot = none →
        exec (.replySent x) s = .next { s with out := [], link := { s.link with answering := .idle } })
    ∧ (∀ x r n f, s.link.answering = .sending r n → ¬ (r.kind = 0x86 ∧ r.status = .ok) → s.link.slot = some f →
        exec (.replySent x) s = .next
          (State.dispatch { s with out := [], link := { s.link with answering := .idle, slot := none } } f))
    ∧ (∀ kind tag body c, s.link.answering = .idle → (kind, c) ∈ requests tag body ∨ c = .unknownKind kind tag body →
        exec c s = .next ((heard s).dispatch { kind := kind, tag := tag, body := body }))
    ∧ (∀ x r n kind tag body c, s.link.answering = .sending r n → ¬ (r.kind = 0x86 ∧ r.status = .ok) →
        s.link.slot = some { kind := kind, tag := tag, body := body } → s.line.watchTimer = .stopped →
        (kind, c) ∈ requests tag body →
        exec (.replySent x) s = exec c { s with link := { s.link with answering := .idle, slot := none } })
end

