-- ==== Sys2Proof/Laws/State.lean ====
section
/-! SUPPORT. One lemma per field per named update of State, each true by rfl. -/

namespace Sys2Proof.Machine

section
variable (s : State)

@[simp] theorem State.setPending_pending (v : List Instr) : (s.setPending v).pending = v := rfl
@[simp] theorem State.setPending_out (v : List Instr) : (s.setPending v).out = s.out := rfl
@[simp] theorem State.setPending_draws (v : List Instr) : (s.setPending v).draws = s.draws := rfl
@[simp] theorem State.setPending_resetLow (v : List Instr) : (s.setPending v).resetLow = s.resetLow := rfl
@[simp] theorem State.setPending_link (v : List Instr) : (s.setPending v).link = s.link := rfl
@[simp] theorem State.setPending_line (v : List Instr) : (s.setPending v).line = s.line := rfl
@[simp] theorem State.setPending_notices (v : List Instr) : (s.setPending v).notices = s.notices := rfl
@[simp] theorem State.setPending_formats (v : List Instr) : (s.setPending v).formats = s.formats := rfl
@[simp] theorem State.setPending_books (v : List Instr) : (s.setPending v).books = s.books := rfl
@[simp] theorem State.setPending_die (v : List Instr) : (s.setPending v).die = s.die := rfl
@[simp] theorem State.setPending_arrival (v : List Instr) : (s.setPending v).arrival = s.arrival := rfl
@[simp] theorem State.setPending_track (v : List Instr) : (s.setPending v).track = s.track := rfl
@[simp] theorem State.setPending_cycle (v : List Instr) : (s.setPending v).cycle = s.cycle := rfl
@[simp] theorem State.setPending_drill (v : List Instr) : (s.setPending v).drill = s.drill := rfl
@[simp] theorem State.setPending_tray (v : List Instr) : (s.setPending v).tray = s.tray := rfl
@[simp] theorem State.setPending_wire (v : List Instr) : (s.setPending v).wire = s.wire := rfl
@[simp] theorem State.setPending_closer (v : List Instr) : (s.setPending v).closer = s.closer := rfl
@[simp] theorem State.setPending_setpoints (v : List Instr) : (s.setPending v).setpoints = s.setpoints := rfl

@[simp] theorem State.setOut_out (v : List Output) : (s.setOut v).out = v := rfl
@[simp] theorem State.setOut_pending (v : List Output) : (s.setOut v).pending = s.pending := rfl
@[simp] theorem State.setOut_draws (v : List Output) : (s.setOut v).draws = s.draws := rfl
@[simp] theorem State.setOut_resetLow (v : List Output) : (s.setOut v).resetLow = s.resetLow := rfl
@[simp] theorem State.setOut_link (v : List Output) : (s.setOut v).link = s.link := rfl
@[simp] theorem State.setOut_line (v : List Output) : (s.setOut v).line = s.line := rfl
@[simp] theorem State.setOut_notices (v : List Output) : (s.setOut v).notices = s.notices := rfl
@[simp] theorem State.setOut_formats (v : List Output) : (s.setOut v).formats = s.formats := rfl
@[simp] theorem State.setOut_books (v : List Output) : (s.setOut v).books = s.books := rfl
@[simp] theorem State.setOut_die (v : List Output) : (s.setOut v).die = s.die := rfl
@[simp] theorem State.setOut_arrival (v : List Output) : (s.setOut v).arrival = s.arrival := rfl
@[simp] theorem State.setOut_track (v : List Output) : (s.setOut v).track = s.track := rfl
@[simp] theorem State.setOut_cycle (v : List Output) : (s.setOut v).cycle = s.cycle := rfl
@[simp] theorem State.setOut_drill (v : List Output) : (s.setOut v).drill = s.drill := rfl
@[simp] theorem State.setOut_tray (v : List Output) : (s.setOut v).tray = s.tray := rfl
@[simp] theorem State.setOut_wire (v : List Output) : (s.setOut v).wire = s.wire := rfl
@[simp] theorem State.setOut_closer (v : List Output) : (s.setOut v).closer = s.closer := rfl
@[simp] theorem State.setOut_setpoints (v : List Output) : (s.setOut v).setpoints = s.setpoints := rfl

@[simp] theorem State.setDraws_draws (v : Nat) : (s.setDraws v).draws = v := rfl
@[simp] theorem State.setDraws_pending (v : Nat) : (s.setDraws v).pending = s.pending := rfl
@[simp] theorem State.setDraws_out (v : Nat) : (s.setDraws v).out = s.out := rfl
@[simp] theorem State.setDraws_resetLow (v : Nat) : (s.setDraws v).resetLow = s.resetLow := rfl
@[simp] theorem State.setDraws_link (v : Nat) : (s.setDraws v).link = s.link := rfl
@[simp] theorem State.setDraws_line (v : Nat) : (s.setDraws v).line = s.line := rfl
@[simp] theorem State.setDraws_notices (v : Nat) : (s.setDraws v).notices = s.notices := rfl
@[simp] theorem State.setDraws_formats (v : Nat) : (s.setDraws v).formats = s.formats := rfl
@[simp] theorem State.setDraws_books (v : Nat) : (s.setDraws v).books = s.books := rfl
@[simp] theorem State.setDraws_die (v : Nat) : (s.setDraws v).die = s.die := rfl
@[simp] theorem State.setDraws_arrival (v : Nat) : (s.setDraws v).arrival = s.arrival := rfl
@[simp] theorem State.setDraws_track (v : Nat) : (s.setDraws v).track = s.track := rfl
@[simp] theorem State.setDraws_cycle (v : Nat) : (s.setDraws v).cycle = s.cycle := rfl
@[simp] theorem State.setDraws_drill (v : Nat) : (s.setDraws v).drill = s.drill := rfl
@[simp] theorem State.setDraws_tray (v : Nat) : (s.setDraws v).tray = s.tray := rfl
@[simp] theorem State.setDraws_wire (v : Nat) : (s.setDraws v).wire = s.wire := rfl
@[simp] theorem State.setDraws_closer (v : Nat) : (s.setDraws v).closer = s.closer := rfl
@[simp] theorem State.setDraws_setpoints (v : Nat) : (s.setDraws v).setpoints = s.setpoints := rfl

@[simp] theorem State.setLink_link (v : Link) : (s.setLink v).link = v := rfl
@[simp] theorem State.setLink_pending (v : Link) : (s.setLink v).pending = s.pending := rfl
@[simp] theorem State.setLink_out (v : Link) : (s.setLink v).out = s.out := rfl
@[simp] theorem State.setLink_draws (v : Link) : (s.setLink v).draws = s.draws := rfl
@[simp] theorem State.setLink_resetLow (v : Link) : (s.setLink v).resetLow = s.resetLow := rfl
@[simp] theorem State.setLink_line (v : Link) : (s.setLink v).line = s.line := rfl
@[simp] theorem State.setLink_notices (v : Link) : (s.setLink v).notices = s.notices := rfl
@[simp] theorem State.setLink_formats (v : Link) : (s.setLink v).formats = s.formats := rfl
@[simp] theorem State.setLink_books (v : Link) : (s.setLink v).books = s.books := rfl
@[simp] theorem State.setLink_die (v : Link) : (s.setLink v).die = s.die := rfl
@[simp] theorem State.setLink_arrival (v : Link) : (s.setLink v).arrival = s.arrival := rfl
@[simp] theorem State.setLink_track (v : Link) : (s.setLink v).track = s.track := rfl
@[simp] theorem State.setLink_cycle (v : Link) : (s.setLink v).cycle = s.cycle := rfl
@[simp] theorem State.setLink_drill (v : Link) : (s.setLink v).drill = s.drill := rfl
@[simp] theorem State.setLink_tray (v : Link) : (s.setLink v).tray = s.tray := rfl
@[simp] theorem State.setLink_wire (v : Link) : (s.setLink v).wire = s.wire := rfl
@[simp] theorem State.setLink_closer (v : Link) : (s.setLink v).closer = s.closer := rfl
@[simp] theorem State.setLink_setpoints (v : Link) : (s.setLink v).setpoints = s.setpoints := rfl

@[simp] theorem State.setLine_line (v : Line) : (s.setLine v).line = v := rfl
@[simp] theorem State.setLine_pending (v : Line) : (s.setLine v).pending = s.pending := rfl
@[simp] theorem State.setLine_out (v : Line) : (s.setLine v).out = s.out := rfl
@[simp] theorem State.setLine_draws (v : Line) : (s.setLine v).draws = s.draws := rfl
@[simp] theorem State.setLine_resetLow (v : Line) : (s.setLine v).resetLow = s.resetLow := rfl
@[simp] theorem State.setLine_link (v : Line) : (s.setLine v).link = s.link := rfl
@[simp] theorem State.setLine_notices (v : Line) : (s.setLine v).notices = s.notices := rfl
@[simp] theorem State.setLine_formats (v : Line) : (s.setLine v).formats = s.formats := rfl
@[simp] theorem State.setLine_books (v : Line) : (s.setLine v).books = s.books := rfl
@[simp] theorem State.setLine_die (v : Line) : (s.setLine v).die = s.die := rfl
@[simp] theorem State.setLine_arrival (v : Line) : (s.setLine v).arrival = s.arrival := rfl
@[simp] theorem State.setLine_track (v : Line) : (s.setLine v).track = s.track := rfl
@[simp] theorem State.setLine_cycle (v : Line) : (s.setLine v).cycle = s.cycle := rfl
@[simp] theorem State.setLine_drill (v : Line) : (s.setLine v).drill = s.drill := rfl
@[simp] theorem State.setLine_tray (v : Line) : (s.setLine v).tray = s.tray := rfl
@[simp] theorem State.setLine_wire (v : Line) : (s.setLine v).wire = s.wire := rfl
@[simp] theorem State.setLine_closer (v : Line) : (s.setLine v).closer = s.closer := rfl
@[simp] theorem State.setLine_setpoints (v : Line) : (s.setLine v).setpoints = s.setpoints := rfl

@[simp] theorem State.setNotices_notices (v : Notices) : (s.setNotices v).notices = v := rfl
@[simp] theorem State.setNotices_pending (v : Notices) : (s.setNotices v).pending = s.pending := rfl
@[simp] theorem State.setNotices_out (v : Notices) : (s.setNotices v).out = s.out := rfl
@[simp] theorem State.setNotices_draws (v : Notices) : (s.setNotices v).draws = s.draws := rfl
@[simp] theorem State.setNotices_resetLow (v : Notices) : (s.setNotices v).resetLow = s.resetLow := rfl
@[simp] theorem State.setNotices_link (v : Notices) : (s.setNotices v).link = s.link := rfl
@[simp] theorem State.setNotices_line (v : Notices) : (s.setNotices v).line = s.line := rfl
@[simp] theorem State.setNotices_formats (v : Notices) : (s.setNotices v).formats = s.formats := rfl
@[simp] theorem State.setNotices_books (v : Notices) : (s.setNotices v).books = s.books := rfl
@[simp] theorem State.setNotices_die (v : Notices) : (s.setNotices v).die = s.die := rfl
@[simp] theorem State.setNotices_arrival (v : Notices) : (s.setNotices v).arrival = s.arrival := rfl
@[simp] theorem State.setNotices_track (v : Notices) : (s.setNotices v).track = s.track := rfl
@[simp] theorem State.setNotices_cycle (v : Notices) : (s.setNotices v).cycle = s.cycle := rfl
@[simp] theorem State.setNotices_drill (v : Notices) : (s.setNotices v).drill = s.drill := rfl
@[simp] theorem State.setNotices_tray (v : Notices) : (s.setNotices v).tray = s.tray := rfl
@[simp] theorem State.setNotices_wire (v : Notices) : (s.setNotices v).wire = s.wire := rfl
@[simp] theorem State.setNotices_closer (v : Notices) : (s.setNotices v).closer = s.closer := rfl
@[simp] theorem State.setNotices_setpoints (v : Notices) : (s.setNotices v).setpoints = s.setpoints := rfl

@[simp] theorem State.setFormats_formats (v : List (Option Format)) : (s.setFormats v).formats = v := rfl
@[simp] theorem State.setFormats_pending (v : List (Option Format)) : (s.setFormats v).pending = s.pending := rfl
@[simp] theorem State.setFormats_out (v : List (Option Format)) : (s.setFormats v).out = s.out := rfl
@[simp] theorem State.setFormats_draws (v : List (Option Format)) : (s.setFormats v).draws = s.draws := rfl
@[simp] theorem State.setFormats_resetLow (v : List (Option Format)) : (s.setFormats v).resetLow = s.resetLow := rfl
@[simp] theorem State.setFormats_link (v : List (Option Format)) : (s.setFormats v).link = s.link := rfl
@[simp] theorem State.setFormats_line (v : List (Option Format)) : (s.setFormats v).line = s.line := rfl
@[simp] theorem State.setFormats_notices (v : List (Option Format)) : (s.setFormats v).notices = s.notices := rfl
@[simp] theorem State.setFormats_books (v : List (Option Format)) : (s.setFormats v).books = s.books := rfl
@[simp] theorem State.setFormats_die (v : List (Option Format)) : (s.setFormats v).die = s.die := rfl
@[simp] theorem State.setFormats_arrival (v : List (Option Format)) : (s.setFormats v).arrival = s.arrival := rfl
@[simp] theorem State.setFormats_track (v : List (Option Format)) : (s.setFormats v).track = s.track := rfl
@[simp] theorem State.setFormats_cycle (v : List (Option Format)) : (s.setFormats v).cycle = s.cycle := rfl
@[simp] theorem State.setFormats_drill (v : List (Option Format)) : (s.setFormats v).drill = s.drill := rfl
@[simp] theorem State.setFormats_tray (v : List (Option Format)) : (s.setFormats v).tray = s.tray := rfl
@[simp] theorem State.setFormats_wire (v : List (Option Format)) : (s.setFormats v).wire = s.wire := rfl
@[simp] theorem State.setFormats_closer (v : List (Option Format)) : (s.setFormats v).closer = s.closer := rfl
@[simp] theorem State.setFormats_setpoints (v : List (Option Format)) : (s.setFormats v).setpoints = s.setpoints := rfl

@[simp] theorem State.setBooks_books (v : List Book) : (s.setBooks v).books = v := rfl
@[simp] theorem State.setBooks_pending (v : List Book) : (s.setBooks v).pending = s.pending := rfl
@[simp] theorem State.setBooks_out (v : List Book) : (s.setBooks v).out = s.out := rfl
@[simp] theorem State.setBooks_draws (v : List Book) : (s.setBooks v).draws = s.draws := rfl
@[simp] theorem State.setBooks_resetLow (v : List Book) : (s.setBooks v).resetLow = s.resetLow := rfl
@[simp] theorem State.setBooks_link (v : List Book) : (s.setBooks v).link = s.link := rfl
@[simp] theorem State.setBooks_line (v : List Book) : (s.setBooks v).line = s.line := rfl
@[simp] theorem State.setBooks_notices (v : List Book) : (s.setBooks v).notices = s.notices := rfl
@[simp] theorem State.setBooks_formats (v : List Book) : (s.setBooks v).formats = s.formats := rfl
@[simp] theorem State.setBooks_die (v : List Book) : (s.setBooks v).die = s.die := rfl
@[simp] theorem State.setBooks_arrival (v : List Book) : (s.setBooks v).arrival = s.arrival := rfl
@[simp] theorem State.setBooks_track (v : List Book) : (s.setBooks v).track = s.track := rfl
@[simp] theorem State.setBooks_cycle (v : List Book) : (s.setBooks v).cycle = s.cycle := rfl
@[simp] theorem State.setBooks_drill (v : List Book) : (s.setBooks v).drill = s.drill := rfl
@[simp] theorem State.setBooks_tray (v : List Book) : (s.setBooks v).tray = s.tray := rfl
@[simp] theorem State.setBooks_wire (v : List Book) : (s.setBooks v).wire = s.wire := rfl
@[simp] theorem State.setBooks_closer (v : List Book) : (s.setBooks v).closer = s.closer := rfl
@[simp] theorem State.setBooks_setpoints (v : List Book) : (s.setBooks v).setpoints = s.setpoints := rfl

@[simp] theorem State.setDie_die (v : Die) : (s.setDie v).die = v := rfl
@[simp] theorem State.setDie_pending (v : Die) : (s.setDie v).pending = s.pending := rfl
@[simp] theorem State.setDie_out (v : Die) : (s.setDie v).out = s.out := rfl
@[simp] theorem State.setDie_draws (v : Die) : (s.setDie v).draws = s.draws := rfl
@[simp] theorem State.setDie_resetLow (v : Die) : (s.setDie v).resetLow = s.resetLow := rfl
@[simp] theorem State.setDie_link (v : Die) : (s.setDie v).link = s.link := rfl
@[simp] theorem State.setDie_line (v : Die) : (s.setDie v).line = s.line := rfl
@[simp] theorem State.setDie_notices (v : Die) : (s.setDie v).notices = s.notices := rfl
@[simp] theorem State.setDie_formats (v : Die) : (s.setDie v).formats = s.formats := rfl
@[simp] theorem State.setDie_books (v : Die) : (s.setDie v).books = s.books := rfl
@[simp] theorem State.setDie_arrival (v : Die) : (s.setDie v).arrival = s.arrival := rfl
@[simp] theorem State.setDie_track (v : Die) : (s.setDie v).track = s.track := rfl
@[simp] theorem State.setDie_cycle (v : Die) : (s.setDie v).cycle = s.cycle := rfl
@[simp] theorem State.setDie_drill (v : Die) : (s.setDie v).drill = s.drill := rfl
@[simp] theorem State.setDie_tray (v : Die) : (s.setDie v).tray = s.tray := rfl
@[simp] theorem State.setDie_wire (v : Die) : (s.setDie v).wire = s.wire := rfl
@[simp] theorem State.setDie_closer (v : Die) : (s.setDie v).closer = s.closer := rfl
@[simp] theorem State.setDie_setpoints (v : Die) : (s.setDie v).setpoints = s.setpoints := rfl

@[simp] theorem State.setArrival_arrival (v : Arrival) : (s.setArrival v).arrival = v := rfl
@[simp] theorem State.setArrival_pending (v : Arrival) : (s.setArrival v).pending = s.pending := rfl
@[simp] theorem State.setArrival_out (v : Arrival) : (s.setArrival v).out = s.out := rfl
@[simp] theorem State.setArrival_draws (v : Arrival) : (s.setArrival v).draws = s.draws := rfl
@[simp] theorem State.setArrival_resetLow (v : Arrival) : (s.setArrival v).resetLow = s.resetLow := rfl
@[simp] theorem State.setArrival_link (v : Arrival) : (s.setArrival v).link = s.link := rfl
@[simp] theorem State.setArrival_line (v : Arrival) : (s.setArrival v).line = s.line := rfl
@[simp] theorem State.setArrival_notices (v : Arrival) : (s.setArrival v).notices = s.notices := rfl
@[simp] theorem State.setArrival_formats (v : Arrival) : (s.setArrival v).formats = s.formats := rfl
@[simp] theorem State.setArrival_books (v : Arrival) : (s.setArrival v).books = s.books := rfl
@[simp] theorem State.setArrival_die (v : Arrival) : (s.setArrival v).die = s.die := rfl
@[simp] theorem State.setArrival_track (v : Arrival) : (s.setArrival v).track = s.track := rfl
@[simp] theorem State.setArrival_cycle (v : Arrival) : (s.setArrival v).cycle = s.cycle := rfl
@[simp] theorem State.setArrival_drill (v : Arrival) : (s.setArrival v).drill = s.drill := rfl
@[simp] theorem State.setArrival_tray (v : Arrival) : (s.setArrival v).tray = s.tray := rfl
@[simp] theorem State.setArrival_wire (v : Arrival) : (s.setArrival v).wire = s.wire := rfl
@[simp] theorem State.setArrival_closer (v : Arrival) : (s.setArrival v).closer = s.closer := rfl
@[simp] theorem State.setArrival_setpoints (v : Arrival) : (s.setArrival v).setpoints = s.setpoints := rfl

@[simp] theorem State.setTrack_track (v : Track) : (s.setTrack v).track = v := rfl
@[simp] theorem State.setTrack_pending (v : Track) : (s.setTrack v).pending = s.pending := rfl
@[simp] theorem State.setTrack_out (v : Track) : (s.setTrack v).out = s.out := rfl
@[simp] theorem State.setTrack_draws (v : Track) : (s.setTrack v).draws = s.draws := rfl
@[simp] theorem State.setTrack_resetLow (v : Track) : (s.setTrack v).resetLow = s.resetLow := rfl
@[simp] theorem State.setTrack_link (v : Track) : (s.setTrack v).link = s.link := rfl
@[simp] theorem State.setTrack_line (v : Track) : (s.setTrack v).line = s.line := rfl
@[simp] theorem State.setTrack_notices (v : Track) : (s.setTrack v).notices = s.notices := rfl
@[simp] theorem State.setTrack_formats (v : Track) : (s.setTrack v).formats = s.formats := rfl
@[simp] theorem State.setTrack_books (v : Track) : (s.setTrack v).books = s.books := rfl
@[simp] theorem State.setTrack_die (v : Track) : (s.setTrack v).die = s.die := rfl
@[simp] theorem State.setTrack_arrival (v : Track) : (s.setTrack v).arrival = s.arrival := rfl
@[simp] theorem State.setTrack_cycle (v : Track) : (s.setTrack v).cycle = s.cycle := rfl
@[simp] theorem State.setTrack_drill (v : Track) : (s.setTrack v).drill = s.drill := rfl
@[simp] theorem State.setTrack_tray (v : Track) : (s.setTrack v).tray = s.tray := rfl
@[simp] theorem State.setTrack_wire (v : Track) : (s.setTrack v).wire = s.wire := rfl
@[simp] theorem State.setTrack_closer (v : Track) : (s.setTrack v).closer = s.closer := rfl
@[simp] theorem State.setTrack_setpoints (v : Track) : (s.setTrack v).setpoints = s.setpoints := rfl

@[simp] theorem State.setCycle_cycle (v : Cycle) : (s.setCycle v).cycle = v := rfl
@[simp] theorem State.setCycle_pending (v : Cycle) : (s.setCycle v).pending = s.pending := rfl
@[simp] theorem State.setCycle_out (v : Cycle) : (s.setCycle v).out = s.out := rfl
@[simp] theorem State.setCycle_draws (v : Cycle) : (s.setCycle v).draws = s.draws := rfl
@[simp] theorem State.setCycle_resetLow (v : Cycle) : (s.setCycle v).resetLow = s.resetLow := rfl
@[simp] theorem State.setCycle_link (v : Cycle) : (s.setCycle v).link = s.link := rfl
@[simp] theorem State.setCycle_line (v : Cycle) : (s.setCycle v).line = s.line := rfl
@[simp] theorem State.setCycle_notices (v : Cycle) : (s.setCycle v).notices = s.notices := rfl
@[simp] theorem State.setCycle_formats (v : Cycle) : (s.setCycle v).formats = s.formats := rfl
@[simp] theorem State.setCycle_books (v : Cycle) : (s.setCycle v).books = s.books := rfl
@[simp] theorem State.setCycle_die (v : Cycle) : (s.setCycle v).die = s.die := rfl
@[simp] theorem State.setCycle_arrival (v : Cycle) : (s.setCycle v).arrival = s.arrival := rfl
@[simp] theorem State.setCycle_track (v : Cycle) : (s.setCycle v).track = s.track := rfl
@[simp] theorem State.setCycle_drill (v : Cycle) : (s.setCycle v).drill = s.drill := rfl
@[simp] theorem State.setCycle_tray (v : Cycle) : (s.setCycle v).tray = s.tray := rfl
@[simp] theorem State.setCycle_wire (v : Cycle) : (s.setCycle v).wire = s.wire := rfl
@[simp] theorem State.setCycle_closer (v : Cycle) : (s.setCycle v).closer = s.closer := rfl
@[simp] theorem State.setCycle_setpoints (v : Cycle) : (s.setCycle v).setpoints = s.setpoints := rfl

@[simp] theorem State.setDrill_drill (v : Drill) : (s.setDrill v).drill = v := rfl
@[simp] theorem State.setDrill_pending (v : Drill) : (s.setDrill v).pending = s.pending := rfl
@[simp] theorem State.setDrill_out (v : Drill) : (s.setDrill v).out = s.out := rfl
@[simp] theorem State.setDrill_draws (v : Drill) : (s.setDrill v).draws = s.draws := rfl
@[simp] theorem State.setDrill_resetLow (v : Drill) : (s.setDrill v).resetLow = s.resetLow := rfl
@[simp] theorem State.setDrill_link (v : Drill) : (s.setDrill v).link = s.link := rfl
@[simp] theorem State.setDrill_line (v : Drill) : (s.setDrill v).line = s.line := rfl
@[simp] theorem State.setDrill_notices (v : Drill) : (s.setDrill v).notices = s.notices := rfl
@[simp] theorem State.setDrill_formats (v : Drill) : (s.setDrill v).formats = s.formats := rfl
@[simp] theorem State.setDrill_books (v : Drill) : (s.setDrill v).books = s.books := rfl
@[simp] theorem State.setDrill_die (v : Drill) : (s.setDrill v).die = s.die := rfl
@[simp] theorem State.setDrill_arrival (v : Drill) : (s.setDrill v).arrival = s.arrival := rfl
@[simp] theorem State.setDrill_track (v : Drill) : (s.setDrill v).track = s.track := rfl
@[simp] theorem State.setDrill_cycle (v : Drill) : (s.setDrill v).cycle = s.cycle := rfl
@[simp] theorem State.setDrill_tray (v : Drill) : (s.setDrill v).tray = s.tray := rfl
@[simp] theorem State.setDrill_wire (v : Drill) : (s.setDrill v).wire = s.wire := rfl
@[simp] theorem State.setDrill_closer (v : Drill) : (s.setDrill v).closer = s.closer := rfl
@[simp] theorem State.setDrill_setpoints (v : Drill) : (s.setDrill v).setpoints = s.setpoints := rfl

@[simp] theorem State.setTray_tray (v : Tray) : (s.setTray v).tray = v := rfl
@[simp] theorem State.setTray_pending (v : Tray) : (s.setTray v).pending = s.pending := rfl
@[simp] theorem State.setTray_out (v : Tray) : (s.setTray v).out = s.out := rfl
@[simp] theorem State.setTray_draws (v : Tray) : (s.setTray v).draws = s.draws := rfl
@[simp] theorem State.setTray_resetLow (v : Tray) : (s.setTray v).resetLow = s.resetLow := rfl
@[simp] theorem State.setTray_link (v : Tray) : (s.setTray v).link = s.link := rfl
@[simp] theorem State.setTray_line (v : Tray) : (s.setTray v).line = s.line := rfl
@[simp] theorem State.setTray_notices (v : Tray) : (s.setTray v).notices = s.notices := rfl
@[simp] theorem State.setTray_formats (v : Tray) : (s.setTray v).formats = s.formats := rfl
@[simp] theorem State.setTray_books (v : Tray) : (s.setTray v).books = s.books := rfl
@[simp] theorem State.setTray_die (v : Tray) : (s.setTray v).die = s.die := rfl
@[simp] theorem State.setTray_arrival (v : Tray) : (s.setTray v).arrival = s.arrival := rfl
@[simp] theorem State.setTray_track (v : Tray) : (s.setTray v).track = s.track := rfl
@[simp] theorem State.setTray_cycle (v : Tray) : (s.setTray v).cycle = s.cycle := rfl
@[simp] theorem State.setTray_drill (v : Tray) : (s.setTray v).drill = s.drill := rfl
@[simp] theorem State.setTray_wire (v : Tray) : (s.setTray v).wire = s.wire := rfl
@[simp] theorem State.setTray_closer (v : Tray) : (s.setTray v).closer = s.closer := rfl
@[simp] theorem State.setTray_setpoints (v : Tray) : (s.setTray v).setpoints = s.setpoints := rfl

@[simp] theorem State.setWire_wire (v : Wire) : (s.setWire v).wire = v := rfl
@[simp] theorem State.setWire_pending (v : Wire) : (s.setWire v).pending = s.pending := rfl
@[simp] theorem State.setWire_out (v : Wire) : (s.setWire v).out = s.out := rfl
@[simp] theorem State.setWire_draws (v : Wire) : (s.setWire v).draws = s.draws := rfl
@[simp] theorem State.setWire_resetLow (v : Wire) : (s.setWire v).resetLow = s.resetLow := rfl
@[simp] theorem State.setWire_link (v : Wire) : (s.setWire v).link = s.link := rfl
@[simp] theorem State.setWire_line (v : Wire) : (s.setWire v).line = s.line := rfl
@[simp] theorem State.setWire_notices (v : Wire) : (s.setWire v).notices = s.notices := rfl
@[simp] theorem State.setWire_formats (v : Wire) : (s.setWire v).formats = s.formats := rfl
@[simp] theorem State.setWire_books (v : Wire) : (s.setWire v).books = s.books := rfl
@[simp] theorem State.setWire_die (v : Wire) : (s.setWire v).die = s.die := rfl
@[simp] theorem State.setWire_arrival (v : Wire) : (s.setWire v).arrival = s.arrival := rfl
@[simp] theorem State.setWire_track (v : Wire) : (s.setWire v).track = s.track := rfl
@[simp] theorem State.setWire_cycle (v : Wire) : (s.setWire v).cycle = s.cycle := rfl
@[simp] theorem State.setWire_drill (v : Wire) : (s.setWire v).drill = s.drill := rfl
@[simp] theorem State.setWire_tray (v : Wire) : (s.setWire v).tray = s.tray := rfl
@[simp] theorem State.setWire_closer (v : Wire) : (s.setWire v).closer = s.closer := rfl
@[simp] theorem State.setWire_setpoints (v : Wire) : (s.setWire v).setpoints = s.setpoints := rfl

@[simp] theorem State.setCloser_closer (v : Closer) : (s.setCloser v).closer = v := rfl
@[simp] theorem State.setCloser_pending (v : Closer) : (s.setCloser v).pending = s.pending := rfl
@[simp] theorem State.setCloser_out (v : Closer) : (s.setCloser v).out = s.out := rfl
@[simp] theorem State.setCloser_draws (v : Closer) : (s.setCloser v).draws = s.draws := rfl
@[simp] theorem State.setCloser_resetLow (v : Closer) : (s.setCloser v).resetLow = s.resetLow := rfl
@[simp] theorem State.setCloser_link (v : Closer) : (s.setCloser v).link = s.link := rfl
@[simp] theorem State.setCloser_line (v : Closer) : (s.setCloser v).line = s.line := rfl
@[simp] theorem State.setCloser_notices (v : Closer) : (s.setCloser v).notices = s.notices := rfl
@[simp] theorem State.setCloser_formats (v : Closer) : (s.setCloser v).formats = s.formats := rfl
@[simp] theorem State.setCloser_books (v : Closer) : (s.setCloser v).books = s.books := rfl
@[simp] theorem State.setCloser_die (v : Closer) : (s.setCloser v).die = s.die := rfl
@[simp] theorem State.setCloser_arrival (v : Closer) : (s.setCloser v).arrival = s.arrival := rfl
@[simp] theorem State.setCloser_track (v : Closer) : (s.setCloser v).track = s.track := rfl
@[simp] theorem State.setCloser_cycle (v : Closer) : (s.setCloser v).cycle = s.cycle := rfl
@[simp] theorem State.setCloser_drill (v : Closer) : (s.setCloser v).drill = s.drill := rfl
@[simp] theorem State.setCloser_tray (v : Closer) : (s.setCloser v).tray = s.tray := rfl
@[simp] theorem State.setCloser_wire (v : Closer) : (s.setCloser v).wire = s.wire := rfl
@[simp] theorem State.setCloser_setpoints (v : Closer) : (s.setCloser v).setpoints = s.setpoints := rfl

@[simp] theorem State.setSetpoints_setpoints (v : Setpoints) : (s.setSetpoints v).setpoints = v := rfl
@[simp] theorem State.setSetpoints_pending (v : Setpoints) : (s.setSetpoints v).pending = s.pending := rfl
@[simp] theorem State.setSetpoints_out (v : Setpoints) : (s.setSetpoints v).out = s.out := rfl
@[simp] theorem State.setSetpoints_draws (v : Setpoints) : (s.setSetpoints v).draws = s.draws := rfl
@[simp] theorem State.setSetpoints_resetLow (v : Setpoints) : (s.setSetpoints v).resetLow = s.resetLow := rfl
@[simp] theorem State.setSetpoints_link (v : Setpoints) : (s.setSetpoints v).link = s.link := rfl
@[simp] theorem State.setSetpoints_line (v : Setpoints) : (s.setSetpoints v).line = s.line := rfl
@[simp] theorem State.setSetpoints_notices (v : Setpoints) : (s.setSetpoints v).notices = s.notices := rfl
@[simp] theorem State.setSetpoints_formats (v : Setpoints) : (s.setSetpoints v).formats = s.formats := rfl
@[simp] theorem State.setSetpoints_books (v : Setpoints) : (s.setSetpoints v).books = s.books := rfl
@[simp] theorem State.setSetpoints_die (v : Setpoints) : (s.setSetpoints v).die = s.die := rfl
@[simp] theorem State.setSetpoints_arrival (v : Setpoints) : (s.setSetpoints v).arrival = s.arrival := rfl
@[simp] theorem State.setSetpoints_track (v : Setpoints) : (s.setSetpoints v).track = s.track := rfl
@[simp] theorem State.setSetpoints_cycle (v : Setpoints) : (s.setSetpoints v).cycle = s.cycle := rfl
@[simp] theorem State.setSetpoints_drill (v : Setpoints) : (s.setSetpoints v).drill = s.drill := rfl
@[simp] theorem State.setSetpoints_tray (v : Setpoints) : (s.setSetpoints v).tray = s.tray := rfl
@[simp] theorem State.setSetpoints_wire (v : Setpoints) : (s.setSetpoints v).wire = s.wire := rfl
@[simp] theorem State.setSetpoints_closer (v : Setpoints) : (s.setSetpoints v).closer = s.closer := rfl

@[simp] theorem State.emit_out (o : Output) : (s.emit o).out = s.out ++ [o] := rfl
@[simp] theorem State.emit_pending (o : Output) : (s.emit o).pending = s.pending := rfl
@[simp] theorem State.emit_draws (o : Output) : (s.emit o).draws = s.draws := rfl
@[simp] theorem State.emit_resetLow (o : Output) : (s.emit o).resetLow = s.resetLow := rfl
@[simp] theorem State.emit_link (o : Output) : (s.emit o).link = s.link := rfl
@[simp] theorem State.emit_line (o : Output) : (s.emit o).line = s.line := rfl
@[simp] theorem State.emit_notices (o : Output) : (s.emit o).notices = s.notices := rfl
@[simp] theorem State.emit_formats (o : Output) : (s.emit o).formats = s.formats := rfl
@[simp] theorem State.emit_books (o : Output) : (s.emit o).books = s.books := rfl
@[simp] theorem State.emit_die (o : Output) : (s.emit o).die = s.die := rfl
@[simp] theorem State.emit_arrival (o : Output) : (s.emit o).arrival = s.arrival := rfl
@[simp] theorem State.emit_track (o : Output) : (s.emit o).track = s.track := rfl
@[simp] theorem State.emit_cycle (o : Output) : (s.emit o).cycle = s.cycle := rfl
@[simp] theorem State.emit_drill (o : Output) : (s.emit o).drill = s.drill := rfl
@[simp] theorem State.emit_tray (o : Output) : (s.emit o).tray = s.tray := rfl
@[simp] theorem State.emit_wire (o : Output) : (s.emit o).wire = s.wire := rfl
@[simp] theorem State.emit_closer (o : Output) : (s.emit o).closer = s.closer := rfl
@[simp] theorem State.emit_setpoints (o : Output) : (s.emit o).setpoints = s.setpoints := rfl

end

end Sys2Proof.Machine
end

