-- ==== Sys2Proof/Laws/OpsFrame.lean ====
section
/-! SUPPORT. Frames: what each operation of the shared operations leaves unchanged, one lemma per operation. -/

namespace Sys2Proof.Machine

variable (s : State)

@[simp] theorem State.push_frame (e : Event) :
    (s.push e).pending = s.pending ∧ (s.push e).out = s.out ∧ (s.push e).draws = s.draws
    ∧ (s.push e).resetLow = s.resetLow ∧ (s.push e).link = s.link ∧ (s.push e).line = s.line
    ∧ (s.push e).formats = s.formats ∧ (s.push e).books = s.books ∧ (s.push e).die = s.die
    ∧ (s.push e).arrival = s.arrival ∧ (s.push e).track = s.track ∧ (s.push e).cycle = s.cycle
    ∧ (s.push e).drill = s.drill ∧ (s.push e).tray = s.tray ∧ (s.push e).wire = s.wire
    ∧ (s.push e).closer = s.closer ∧ (s.push e).setpoints = s.setpoints := by simp [State.push]

@[simp] theorem State.updateBook_frame (id : Nat) (f : Book → Book) :
    (s.updateBook id f).pending = s.pending ∧ (s.updateBook id f).out = s.out
    ∧ (s.updateBook id f).draws = s.draws ∧ (s.updateBook id f).resetLow = s.resetLow
    ∧ (s.updateBook id f).link = s.link ∧ (s.updateBook id f).line = s.line
    ∧ (s.updateBook id f).notices = s.notices ∧ (s.updateBook id f).formats = s.formats
    ∧ (s.updateBook id f).die = s.die ∧ (s.updateBook id f).arrival = s.arrival
    ∧ (s.updateBook id f).track = s.track ∧ (s.updateBook id f).cycle = s.cycle
    ∧ (s.updateBook id f).drill = s.drill ∧ (s.updateBook id f).tray = s.tray
    ∧ (s.updateBook id f).wire = s.wire ∧ (s.updateBook id f).closer = s.closer
    ∧ (s.updateBook id f).setpoints = s.setpoints := by simp [State.updateBook]

@[simp] theorem State.sweep_frame :
    (s.sweep).pending = s.pending ∧ (s.sweep).out = s.out ∧ (s.sweep).draws = s.draws
    ∧ (s.sweep).resetLow = s.resetLow ∧ (s.sweep).link = s.link ∧ (s.sweep).line = s.line
    ∧ (s.sweep).notices = s.notices ∧ (s.sweep).formats = s.formats ∧ (s.sweep).die = s.die
    ∧ (s.sweep).arrival = s.arrival ∧ (s.sweep).track = s.track ∧ (s.sweep).cycle = s.cycle
    ∧ (s.sweep).drill = s.drill ∧ (s.sweep).tray = s.tray ∧ (s.sweep).wire = s.wire
    ∧ (s.sweep).closer = s.closer ∧ (s.sweep).setpoints = s.setpoints := by simp [State.sweep]

@[simp] theorem State.lineTo_frame (m : Mode) :
    (s.lineTo m).pending = s.pending ∧ (s.lineTo m).out = s.out ∧ (s.lineTo m).draws = s.draws
    ∧ (s.lineTo m).resetLow = s.resetLow ∧ (s.lineTo m).link = s.link ∧ (s.lineTo m).formats = s.formats
    ∧ (s.lineTo m).books = s.books ∧ (s.lineTo m).die = s.die ∧ (s.lineTo m).arrival = s.arrival
    ∧ (s.lineTo m).track = s.track ∧ (s.lineTo m).cycle = s.cycle ∧ (s.lineTo m).drill = s.drill
    ∧ (s.lineTo m).tray = s.tray ∧ (s.lineTo m).wire = s.wire ∧ (s.lineTo m).closer = s.closer
    ∧ (s.lineTo m).setpoints = s.setpoints := by
  simp only [State.lineTo]; split <;> simp

@[simp] theorem State.stopWatch_frame :
    (s.stopWatch).pending = s.pending ∧ (s.stopWatch).out = s.out ∧ (s.stopWatch).draws = s.draws
    ∧ (s.stopWatch).resetLow = s.resetLow ∧ (s.stopWatch).link = s.link
    ∧ (s.stopWatch).notices = s.notices ∧ (s.stopWatch).formats = s.formats
    ∧ (s.stopWatch).books = s.books ∧ (s.stopWatch).die = s.die ∧ (s.stopWatch).arrival = s.arrival
    ∧ (s.stopWatch).track = s.track ∧ (s.stopWatch).cycle = s.cycle ∧ (s.stopWatch).drill = s.drill
    ∧ (s.stopWatch).tray = s.tray ∧ (s.stopWatch).wire = s.wire ∧ (s.stopWatch).closer = s.closer
    ∧ (s.stopWatch).setpoints = s.setpoints := by simp [State.stopWatch]

@[simp] theorem State.holdClear_frame :
    (s.holdClear).pending = s.pending ∧ (s.holdClear).draws = s.draws
    ∧ (s.holdClear).resetLow = s.resetLow ∧ (s.holdClear).link = s.link ∧ (s.holdClear).line = s.line
    ∧ (s.holdClear).notices = s.notices ∧ (s.holdClear).formats = s.formats
    ∧ (s.holdClear).books = s.books ∧ (s.holdClear).die = s.die ∧ (s.holdClear).arrival = s.arrival
    ∧ (s.holdClear).track = s.track ∧ (s.holdClear).drill = s.drill ∧ (s.holdClear).tray = s.tray
    ∧ (s.holdClear).wire = s.wire ∧ (s.holdClear).closer = s.closer
    ∧ (s.holdClear).setpoints = s.setpoints := by simp [State.holdClear]

@[simp] theorem State.holdInPlace_frame :
    (s.holdInPlace).pending = s.pending ∧ (s.holdInPlace).out = s.out ∧ (s.holdInPlace).draws = s.draws
    ∧ (s.holdInPlace).resetLow = s.resetLow ∧ (s.holdInPlace).link = s.link
    ∧ (s.holdInPlace).line = s.line ∧ (s.holdInPlace).notices = s.notices
    ∧ (s.holdInPlace).formats = s.formats ∧ (s.holdInPlace).books = s.books ∧ (s.holdInPlace).die = s.die
    ∧ (s.holdInPlace).arrival = s.arrival ∧ (s.holdInPlace).track = s.track
    ∧ (s.holdInPlace).drill = s.drill ∧ (s.holdInPlace).tray = s.tray ∧ (s.holdInPlace).wire = s.wire
    ∧ (s.holdInPlace).closer = s.closer ∧ (s.holdInPlace).setpoints = s.setpoints := by simp [State.holdInPlace]

@[simp] theorem State.judgeDrainEnd_frame :
    (s.judgeDrainEnd).pending = s.pending ∧ (s.judgeDrainEnd).draws = s.draws
    ∧ (s.judgeDrainEnd).resetLow = s.resetLow ∧ (s.judgeDrainEnd).link = s.link
    ∧ (s.judgeDrainEnd).formats = s.formats ∧ (s.judgeDrainEnd).books = s.books
    ∧ (s.judgeDrainEnd).die = s.die ∧ (s.judgeDrainEnd).arrival = s.arrival
    ∧ (s.judgeDrainEnd).track = s.track ∧ (s.judgeDrainEnd).drill = s.drill
    ∧ (s.judgeDrainEnd).tray = s.tray ∧ (s.judgeDrainEnd).wire = s.wire
    ∧ (s.judgeDrainEnd).closer = s.closer ∧ (s.judgeDrainEnd).setpoints = s.setpoints := by
  simp only [State.judgeDrainEnd]; split <;> simp

@[simp] theorem State.enterDraining_frame :
    (s.enterDraining).pending = s.pending ∧ (s.enterDraining).draws = s.draws
    ∧ (s.enterDraining).resetLow = s.resetLow ∧ (s.enterDraining).link = s.link
    ∧ (s.enterDraining).formats = s.formats ∧ (s.enterDraining).books = s.books
    ∧ (s.enterDraining).die = s.die ∧ (s.enterDraining).arrival = s.arrival
    ∧ (s.enterDraining).track = s.track ∧ (s.enterDraining).drill = s.drill
    ∧ (s.enterDraining).tray = s.tray ∧ (s.enterDraining).wire = s.wire
    ∧ (s.enterDraining).closer = s.closer ∧ (s.enterDraining).setpoints = s.setpoints := by simp [State.enterDraining]

@[simp] theorem State.halt_frame (c : HaltCause) :
    (s.halt c).pending = s.pending ∧ (s.halt c).out = s.out ∧ (s.halt c).draws = s.draws
    ∧ (s.halt c).resetLow = s.resetLow ∧ (s.halt c).link = s.link ∧ (s.halt c).formats = s.formats
    ∧ (s.halt c).die = s.die ∧ (s.halt c).arrival = s.arrival ∧ (s.halt c).tray = s.tray
    ∧ (s.halt c).wire = s.wire ∧ (s.halt c).closer = s.closer ∧ (s.halt c).setpoints = s.setpoints := by
  simp only [State.halt]; split <;> simp

@[simp] theorem State.finishBoard_frame :
    (s.finishBoard).pending = s.pending ∧ (s.finishBoard).out = s.out ∧ (s.finishBoard).draws = s.draws
    ∧ (s.finishBoard).resetLow = s.resetLow ∧ (s.finishBoard).link = s.link
    ∧ (s.finishBoard).line = s.line ∧ (s.finishBoard).notices = s.notices
    ∧ (s.finishBoard).formats = s.formats ∧ (s.finishBoard).books = s.books ∧ (s.finishBoard).die = s.die
    ∧ (s.finishBoard).arrival = s.arrival ∧ (s.finishBoard).cycle = s.cycle
    ∧ (s.finishBoard).tray = s.tray ∧ (s.finishBoard).wire = s.wire ∧ (s.finishBoard).closer = s.closer
    ∧ (s.finishBoard).setpoints = s.setpoints := by simp [State.finishBoard]

@[simp] theorem State.sendHole_frame :
    (s.sendHole).pending = s.pending ∧ (s.sendHole).draws = s.draws ∧ (s.sendHole).resetLow = s.resetLow
    ∧ (s.sendHole).link = s.link ∧ (s.sendHole).line = s.line ∧ (s.sendHole).notices = s.notices
    ∧ (s.sendHole).formats = s.formats ∧ (s.sendHole).books = s.books ∧ (s.sendHole).die = s.die
    ∧ (s.sendHole).arrival = s.arrival ∧ (s.sendHole).track = s.track ∧ (s.sendHole).cycle = s.cycle
    ∧ (s.sendHole).tray = s.tray ∧ (s.sendHole).wire = s.wire ∧ (s.sendHole).closer = s.closer
    ∧ (s.sendHole).setpoints = s.setpoints := by
  simp only [State.sendHole]; split <;> simp

@[simp] theorem State.judgeWireLow_frame (b n : Nat) :
    (s.judgeWireLow b n).pending = s.pending ∧ (s.judgeWireLow b n).out = s.out
    ∧ (s.judgeWireLow b n).draws = s.draws ∧ (s.judgeWireLow b n).resetLow = s.resetLow
    ∧ (s.judgeWireLow b n).link = s.link ∧ (s.judgeWireLow b n).line = s.line
    ∧ (s.judgeWireLow b n).formats = s.formats ∧ (s.judgeWireLow b n).books = s.books
    ∧ (s.judgeWireLow b n).die = s.die ∧ (s.judgeWireLow b n).arrival = s.arrival
    ∧ (s.judgeWireLow b n).track = s.track ∧ (s.judgeWireLow b n).cycle = s.cycle
    ∧ (s.judgeWireLow b n).drill = s.drill ∧ (s.judgeWireLow b n).tray = s.tray
    ∧ (s.judgeWireLow b n).wire = s.wire ∧ (s.judgeWireLow b n).closer = s.closer
    ∧ (s.judgeWireLow b n).setpoints = s.setpoints := by
  simp only [State.judgeWireLow]; split <;> simp

@[simp] theorem State.startCut_frame (b : Book) (first : Bool) :
    (s.startCut b first).pending = s.pending ∧ (s.startCut b first).draws = s.draws
    ∧ (s.startCut b first).resetLow = s.resetLow ∧ (s.startCut b first).link = s.link
    ∧ (s.startCut b first).line = s.line ∧ (s.startCut b first).formats = s.formats
    ∧ (s.startCut b first).books = s.books ∧ (s.startCut b first).die = s.die
    ∧ (s.startCut b first).arrival = s.arrival ∧ (s.startCut b first).track = s.track
    ∧ (s.startCut b first).cycle = s.cycle ∧ (s.startCut b first).drill = s.drill
    ∧ (s.startCut b first).tray = s.tray ∧ (s.startCut b first).closer = s.closer
    ∧ (s.startCut b first).setpoints = s.setpoints := by
  simp only [State.startCut]; repeat' split
  all_goals simp

@[simp] theorem State.wireStart_frame :
    (s.wireStart).pending = s.pending ∧ (s.wireStart).draws = s.draws
    ∧ (s.wireStart).resetLow = s.resetLow ∧ (s.wireStart).link = s.link ∧ (s.wireStart).line = s.line
    ∧ (s.wireStart).formats = s.formats ∧ (s.wireStart).books = s.books ∧ (s.wireStart).die = s.die
    ∧ (s.wireStart).arrival = s.arrival ∧ (s.wireStart).track = s.track ∧ (s.wireStart).cycle = s.cycle
    ∧ (s.wireStart).drill = s.drill ∧ (s.wireStart).tray = s.tray ∧ (s.wireStart).closer = s.closer
    ∧ (s.wireStart).setpoints = s.setpoints := by
  simp only [State.wireStart]; repeat' split
  all_goals simp

@[simp] theorem State.dropCut_frame :
    (s.dropCut).pending = s.pending ∧ (s.dropCut).draws = s.draws ∧ (s.dropCut).resetLow = s.resetLow
    ∧ (s.dropCut).link = s.link ∧ (s.dropCut).line = s.line ∧ (s.dropCut).formats = s.formats
    ∧ (s.dropCut).die = s.die ∧ (s.dropCut).arrival = s.arrival ∧ (s.dropCut).track = s.track
    ∧ (s.dropCut).cycle = s.cycle ∧ (s.dropCut).drill = s.drill ∧ (s.dropCut).tray = s.tray
    ∧ (s.dropCut).closer = s.closer ∧ (s.dropCut).setpoints = s.setpoints := by simp [State.dropCut]

@[simp] theorem State.drillSpoil_frame (id : Nat) :
    (s.drillSpoil id).pending = s.pending ∧ (s.drillSpoil id).out = s.out
    ∧ (s.drillSpoil id).draws = s.draws ∧ (s.drillSpoil id).resetLow = s.resetLow
    ∧ (s.drillSpoil id).link = s.link ∧ (s.drillSpoil id).line = s.line
    ∧ (s.drillSpoil id).notices = s.notices ∧ (s.drillSpoil id).formats = s.formats
    ∧ (s.drillSpoil id).books = s.books ∧ (s.drillSpoil id).die = s.die
    ∧ (s.drillSpoil id).arrival = s.arrival ∧ (s.drillSpoil id).cycle = s.cycle
    ∧ (s.drillSpoil id).tray = s.tray ∧ (s.drillSpoil id).wire = s.wire
    ∧ (s.drillSpoil id).closer = s.closer ∧ (s.drillSpoil id).setpoints = s.setpoints := by
  simp only [State.drillSpoil]; repeat' split
  all_goals simp

@[simp] theorem State.traySpoil_frame (id : Nat) :
    (s.traySpoil id).pending = s.pending ∧ (s.traySpoil id).draws = s.draws
    ∧ (s.traySpoil id).resetLow = s.resetLow ∧ (s.traySpoil id).link = s.link
    ∧ (s.traySpoil id).line = s.line ∧ (s.traySpoil id).notices = s.notices
    ∧ (s.traySpoil id).formats = s.formats ∧ (s.traySpoil id).die = s.die
    ∧ (s.traySpoil id).arrival = s.arrival ∧ (s.traySpoil id).track = s.track
    ∧ (s.traySpoil id).cycle = s.cycle ∧ (s.traySpoil id).drill = s.drill
    ∧ (s.traySpoil id).wire = s.wire ∧ (s.traySpoil id).setpoints = s.setpoints := by
  simp only [State.traySpoil]; split <;> simp

@[simp] theorem State.wireSpoil_frame (id : Nat) :
    (s.wireSpoil id).pending = s.pending ∧ (s.wireSpoil id).draws = s.draws
    ∧ (s.wireSpoil id).resetLow = s.resetLow ∧ (s.wireSpoil id).link = s.link
    ∧ (s.wireSpoil id).line = s.line ∧ (s.wireSpoil id).formats = s.formats
    ∧ (s.wireSpoil id).die = s.die ∧ (s.wireSpoil id).arrival = s.arrival
    ∧ (s.wireSpoil id).track = s.track ∧ (s.wireSpoil id).cycle = s.cycle
    ∧ (s.wireSpoil id).drill = s.drill ∧ (s.wireSpoil id).tray = s.tray
    ∧ (s.wireSpoil id).closer = s.closer ∧ (s.wireSpoil id).setpoints = s.setpoints := by
  simp only [State.wireSpoil]; repeat' split
  all_goals simp

@[simp] theorem State.spoil_frame (id : Nat) (r : Reason) (q v : Nat) :
    (s.spoil id r q v).pending = s.pending ∧ (s.spoil id r q v).draws = s.draws
    ∧ (s.spoil id r q v).resetLow = s.resetLow ∧ (s.spoil id r q v).link = s.link
    ∧ (s.spoil id r q v).line = s.line ∧ (s.spoil id r q v).formats = s.formats
    ∧ (s.spoil id r q v).die = s.die ∧ (s.spoil id r q v).arrival = s.arrival
    ∧ (s.spoil id r q v).cycle = s.cycle ∧ (s.spoil id r q v).setpoints = s.setpoints := by
  simp only [State.spoil]; repeat' split
  all_goals simp

@[simp] theorem State.startClose_frame (b : Book) :
    (s.startClose b).pending = s.pending ∧ (s.startClose b).draws = s.draws
    ∧ (s.startClose b).resetLow = s.resetLow ∧ (s.startClose b).link = s.link
    ∧ (s.startClose b).line = s.line ∧ (s.startClose b).notices = s.notices
    ∧ (s.startClose b).formats = s.formats ∧ (s.startClose b).die = s.die
    ∧ (s.startClose b).arrival = s.arrival ∧ (s.startClose b).track = s.track
    ∧ (s.startClose b).cycle = s.cycle ∧ (s.startClose b).drill = s.drill
    ∧ (s.startClose b).setpoints = s.setpoints := by simp [State.startClose]

@[simp] theorem State.judgeCloser_frame :
    (s.judgeCloser).pending = s.pending ∧ (s.judgeCloser).draws = s.draws
    ∧ (s.judgeCloser).resetLow = s.resetLow ∧ (s.judgeCloser).link = s.link
    ∧ (s.judgeCloser).line = s.line ∧ (s.judgeCloser).formats = s.formats ∧ (s.judgeCloser).die = s.die
    ∧ (s.judgeCloser).arrival = s.arrival ∧ (s.judgeCloser).track = s.track
    ∧ (s.judgeCloser).cycle = s.cycle ∧ (s.judgeCloser).drill = s.drill
    ∧ (s.judgeCloser).setpoints = s.setpoints := by
  simp only [State.judgeCloser]; repeat' split
  all_goals simp

end Sys2Proof.Machine
end

