-- ==== Sys2Proof/Laws/LineControlFrame.lean ====
section
/-! SUPPORT. Frames: what each operation of Line Control leaves unchanged, one lemma per operation. -/

namespace Sys2Proof.Machine

variable (s : State)

@[simp] theorem State.startRun_frame :
    (s.startRun).pending = s.pending ∧ (s.startRun).out = s.out ∧ (s.startRun).draws = s.draws
    ∧ (s.startRun).resetLow = s.resetLow ∧ (s.startRun).link = s.link ∧ (s.startRun).formats = s.formats
    ∧ (s.startRun).books = s.books ∧ (s.startRun).die = s.die ∧ (s.startRun).arrival = s.arrival
    ∧ (s.startRun).track = s.track ∧ (s.startRun).drill = s.drill ∧ (s.startRun).tray = s.tray
    ∧ (s.startRun).wire = s.wire ∧ (s.startRun).closer = s.closer ∧ (s.startRun).setpoints = s.setpoints := by simp [State.startRun]

@[simp] theorem State.stopBlocks_frame :
    (s.stopBlocks).pending = s.pending ∧ (s.stopBlocks).draws = s.draws
    ∧ (s.stopBlocks).resetLow = s.resetLow ∧ (s.stopBlocks).link = s.link
    ∧ (s.stopBlocks).notices = s.notices ∧ (s.stopBlocks).formats = s.formats
    ∧ (s.stopBlocks).books = s.books ∧ (s.stopBlocks).die = s.die ∧ (s.stopBlocks).tray = s.tray
    ∧ (s.stopBlocks).closer = s.closer ∧ (s.stopBlocks).setpoints = s.setpoints := by simp [State.stopBlocks]

/-- The spoils of a purge, one after the other, keep what one spoil keeps. -/
@[simp] theorem State.purge_frame (l : List Nat) : ∀ t : State,
    (l.foldl (fun t id => t.spoil id .purged 0 0) t).pending = t.pending
    ∧ (l.foldl (fun t id => t.spoil id .purged 0 0) t).draws = t.draws
    ∧ (l.foldl (fun t id => t.spoil id .purged 0 0) t).resetLow = t.resetLow
    ∧ (l.foldl (fun t id => t.spoil id .purged 0 0) t).link = t.link
    ∧ (l.foldl (fun t id => t.spoil id .purged 0 0) t).line = t.line
    ∧ (l.foldl (fun t id => t.spoil id .purged 0 0) t).formats = t.formats
    ∧ (l.foldl (fun t id => t.spoil id .purged 0 0) t).die = t.die
    ∧ (l.foldl (fun t id => t.spoil id .purged 0 0) t).arrival = t.arrival
    ∧ (l.foldl (fun t id => t.spoil id .purged 0 0) t).cycle = t.cycle
    ∧ (l.foldl (fun t id => t.spoil id .purged 0 0) t).setpoints = t.setpoints := by
  induction l with
  | nil => simp
  | cons id l ih => intro t; simp [List.foldl_cons, ih]

@[simp] theorem State.stopLine_frame :
    s.stopLine.pending = s.pending ∧ s.stopLine.draws = s.draws ∧ s.stopLine.resetLow = s.resetLow
    ∧ s.stopLine.link = s.link ∧ s.stopLine.formats = s.formats ∧ s.stopLine.die = s.die
    ∧ s.stopLine.setpoints = s.setpoints := by simp [State.stopLine]

@[simp] theorem State.watchExpiry_frame :
    (s.watchExpiry).pending = s.pending ∧ (s.watchExpiry).draws = s.draws
    ∧ (s.watchExpiry).resetLow = s.resetLow ∧ (s.watchExpiry).link = s.link
    ∧ (s.watchExpiry).formats = s.formats ∧ (s.watchExpiry).books = s.books ∧ (s.watchExpiry).die = s.die
    ∧ (s.watchExpiry).arrival = s.arrival ∧ (s.watchExpiry).drill = s.drill
    ∧ (s.watchExpiry).tray = s.tray ∧ (s.watchExpiry).wire = s.wire ∧ (s.watchExpiry).closer = s.closer
    ∧ (s.watchExpiry).setpoints = s.setpoints := by
  simp only [State.watchExpiry]; repeat' split
  all_goals simp

end Sys2Proof.Machine
end

