-- ==== Sys2Proof/Laws/ArrivalLatchFrame.lean ====
section
/-! SUPPORT. Frames: what each operation of the Arrival Latch leaves unchanged, one lemma per operation. -/

namespace Sys2Proof.Machine

variable (s : State)

@[simp] theorem State.admitSheet_frame (b : Book) (l : Leaf) :
    (s.admitSheet b l).pending = s.pending ∧ (s.admitSheet b l).out = s.out
    ∧ (s.admitSheet b l).draws = s.draws ∧ (s.admitSheet b l).resetLow = s.resetLow
    ∧ (s.admitSheet b l).link = s.link ∧ (s.admitSheet b l).line = s.line
    ∧ (s.admitSheet b l).notices = s.notices ∧ (s.admitSheet b l).formats = s.formats
    ∧ (s.admitSheet b l).die = s.die ∧ (s.admitSheet b l).cycle = s.cycle
    ∧ (s.admitSheet b l).drill = s.drill ∧ (s.admitSheet b l).tray = s.tray
    ∧ (s.admitSheet b l).wire = s.wire ∧ (s.admitSheet b l).closer = s.closer
    ∧ (s.admitSheet b l).setpoints = s.setpoints := by simp [State.admitSheet]

@[simp] theorem State.leadEdge_frame :
    (s.leadEdge).pending = s.pending ∧ (s.leadEdge).out = s.out ∧ (s.leadEdge).draws = s.draws
    ∧ (s.leadEdge).resetLow = s.resetLow ∧ (s.leadEdge).link = s.link ∧ (s.leadEdge).formats = s.formats
    ∧ (s.leadEdge).die = s.die ∧ (s.leadEdge).tray = s.tray ∧ (s.leadEdge).wire = s.wire
    ∧ (s.leadEdge).closer = s.closer ∧ (s.leadEdge).setpoints = s.setpoints := by
  simp only [State.leadEdge]; repeat' split
  all_goals simp

@[simp] theorem State.updateReg_frame (f : Sheet → Sheet) :
    (s.updateReg f).pending = s.pending ∧ (s.updateReg f).out = s.out ∧ (s.updateReg f).draws = s.draws
    ∧ (s.updateReg f).resetLow = s.resetLow ∧ (s.updateReg f).link = s.link
    ∧ (s.updateReg f).line = s.line ∧ (s.updateReg f).notices = s.notices
    ∧ (s.updateReg f).formats = s.formats ∧ (s.updateReg f).books = s.books ∧ (s.updateReg f).die = s.die
    ∧ (s.updateReg f).arrival = s.arrival ∧ (s.updateReg f).cycle = s.cycle
    ∧ (s.updateReg f).drill = s.drill ∧ (s.updateReg f).tray = s.tray ∧ (s.updateReg f).wire = s.wire
    ∧ (s.updateReg f).closer = s.closer ∧ (s.updateReg f).setpoints = s.setpoints := by simp [State.updateReg]

@[simp] theorem State.closeSkew_frame (n : Nat) :
    (s.closeSkew n).pending = s.pending ∧ (s.closeSkew n).out = s.out ∧ (s.closeSkew n).draws = s.draws
    ∧ (s.closeSkew n).resetLow = s.resetLow ∧ (s.closeSkew n).link = s.link
    ∧ (s.closeSkew n).line = s.line ∧ (s.closeSkew n).notices = s.notices
    ∧ (s.closeSkew n).formats = s.formats ∧ (s.closeSkew n).books = s.books ∧ (s.closeSkew n).die = s.die
    ∧ (s.closeSkew n).cycle = s.cycle ∧ (s.closeSkew n).drill = s.drill ∧ (s.closeSkew n).tray = s.tray
    ∧ (s.closeSkew n).wire = s.wire ∧ (s.closeSkew n).closer = s.closer
    ∧ (s.closeSkew n).setpoints = s.setpoints := by simp [State.closeSkew]

@[simp] theorem State.frontLay_frame (x : Lay) :
    (s.frontLay x).pending = s.pending ∧ (s.frontLay x).out = s.out ∧ (s.frontLay x).draws = s.draws
    ∧ (s.frontLay x).resetLow = s.resetLow ∧ (s.frontLay x).link = s.link ∧ (s.frontLay x).line = s.line
    ∧ (s.frontLay x).notices = s.notices ∧ (s.frontLay x).formats = s.formats
    ∧ (s.frontLay x).books = s.books ∧ (s.frontLay x).die = s.die ∧ (s.frontLay x).cycle = s.cycle
    ∧ (s.frontLay x).drill = s.drill ∧ (s.frontLay x).tray = s.tray ∧ (s.frontLay x).wire = s.wire
    ∧ (s.frontLay x).closer = s.closer ∧ (s.frontLay x).setpoints = s.setpoints := by
  simp only [State.frontLay]; repeat' split
  all_goals simp

@[simp] theorem State.skewPulse_frame :
    (s.skewPulse).pending = s.pending ∧ (s.skewPulse).out = s.out ∧ (s.skewPulse).draws = s.draws
    ∧ (s.skewPulse).resetLow = s.resetLow ∧ (s.skewPulse).link = s.link ∧ (s.skewPulse).line = s.line
    ∧ (s.skewPulse).notices = s.notices ∧ (s.skewPulse).formats = s.formats
    ∧ (s.skewPulse).books = s.books ∧ (s.skewPulse).die = s.die ∧ (s.skewPulse).cycle = s.cycle
    ∧ (s.skewPulse).drill = s.drill ∧ (s.skewPulse).tray = s.tray ∧ (s.skewPulse).wire = s.wire
    ∧ (s.skewPulse).closer = s.closer ∧ (s.skewPulse).setpoints = s.setpoints := by
  simp only [State.skewPulse]; repeat' split
  all_goals simp

@[simp] theorem State.gauge_frame (ok : Bool) (r : GaugeReport) :
    (s.gauge ok r).pending = s.pending ∧ (s.gauge ok r).out = s.out ∧ (s.gauge ok r).draws = s.draws
    ∧ (s.gauge ok r).resetLow = s.resetLow ∧ (s.gauge ok r).link = s.link ∧ (s.gauge ok r).line = s.line
    ∧ (s.gauge ok r).notices = s.notices ∧ (s.gauge ok r).formats = s.formats
    ∧ (s.gauge ok r).books = s.books ∧ (s.gauge ok r).die = s.die ∧ (s.gauge ok r).arrival = s.arrival
    ∧ (s.gauge ok r).cycle = s.cycle ∧ (s.gauge ok r).drill = s.drill ∧ (s.gauge ok r).tray = s.tray
    ∧ (s.gauge ok r).wire = s.wire ∧ (s.gauge ok r).closer = s.closer
    ∧ (s.gauge ok r).setpoints = s.setpoints := by
  simp only [State.gauge]; split <;> simp

@[simp] theorem State.markRead_frame (ok : Bool) (r : MarkReport) :
    (s.markRead ok r).pending = s.pending ∧ (s.markRead ok r).out = s.out
    ∧ (s.markRead ok r).draws = s.draws ∧ (s.markRead ok r).resetLow = s.resetLow
    ∧ (s.markRead ok r).link = s.link ∧ (s.markRead ok r).line = s.line
    ∧ (s.markRead ok r).notices = s.notices ∧ (s.markRead ok r).formats = s.formats
    ∧ (s.markRead ok r).books = s.books ∧ (s.markRead ok r).die = s.die
    ∧ (s.markRead ok r).arrival = s.arrival ∧ (s.markRead ok r).cycle = s.cycle
    ∧ (s.markRead ok r).drill = s.drill ∧ (s.markRead ok r).tray = s.tray
    ∧ (s.markRead ok r).wire = s.wire ∧ (s.markRead ok r).closer = s.closer
    ∧ (s.markRead ok r).setpoints = s.setpoints := by
  simp only [State.markRead]; split <;> simp

@[simp] theorem State.caliperDone_frame (um : Nat) :
    (s.caliperDone um).pending = s.pending ∧ (s.caliperDone um).out = s.out
    ∧ (s.caliperDone um).draws = s.draws ∧ (s.caliperDone um).resetLow = s.resetLow
    ∧ (s.caliperDone um).link = s.link ∧ (s.caliperDone um).line = s.line
    ∧ (s.caliperDone um).notices = s.notices ∧ (s.caliperDone um).formats = s.formats
    ∧ (s.caliperDone um).books = s.books ∧ (s.caliperDone um).die = s.die
    ∧ (s.caliperDone um).cycle = s.cycle ∧ (s.caliperDone um).drill = s.drill
    ∧ (s.caliperDone um).tray = s.tray ∧ (s.caliperDone um).wire = s.wire
    ∧ (s.caliperDone um).closer = s.closer ∧ (s.caliperDone um).setpoints = s.setpoints := by
  simp only [State.caliperDone]; split <;> simp

end Sys2Proof.Machine
end

