-- ==== Sys2Proof/Laws/WireCloserFrame.lean ====
section
/-! SUPPORT. Frames: what each operation of Stacker, Wire Feed and Closer leaves unchanged, one lemma per operation. -/

namespace Sys2Proof.Machine

variable (s : State)

@[simp] theorem State.dumpSheet_frame (id : Nat) :
    (s.dumpSheet id).pending = s.pending ∧ (s.dumpSheet id).draws = s.draws
    ∧ (s.dumpSheet id).resetLow = s.resetLow ∧ (s.dumpSheet id).link = s.link
    ∧ (s.dumpSheet id).formats = s.formats ∧ (s.dumpSheet id).die = s.die
    ∧ (s.dumpSheet id).arrival = s.arrival ∧ (s.dumpSheet id).drill = s.drill
    ∧ (s.dumpSheet id).tray = s.tray ∧ (s.dumpSheet id).wire = s.wire
    ∧ (s.dumpSheet id).closer = s.closer ∧ (s.dumpSheet id).setpoints = s.setpoints := by simp [State.dumpSheet]

@[simp] theorem State.openTray_frame (id : Nat) :
    (s.openTray id).pending = s.pending ∧ (s.openTray id).draws = s.draws
    ∧ (s.openTray id).resetLow = s.resetLow ∧ (s.openTray id).link = s.link
    ∧ (s.openTray id).line = s.line ∧ (s.openTray id).formats = s.formats
    ∧ (s.openTray id).books = s.books ∧ (s.openTray id).die = s.die ∧ (s.openTray id).arrival = s.arrival
    ∧ (s.openTray id).track = s.track ∧ (s.openTray id).cycle = s.cycle ∧ (s.openTray id).drill = s.drill
    ∧ (s.openTray id).closer = s.closer ∧ (s.openTray id).setpoints = s.setpoints := by
  simp only [State.openTray]; split <;> simp

@[simp] theorem State.completeTray_frame (id : Nat) :
    (s.completeTray id).pending = s.pending ∧ (s.completeTray id).draws = s.draws
    ∧ (s.completeTray id).resetLow = s.resetLow ∧ (s.completeTray id).link = s.link
    ∧ (s.completeTray id).line = s.line ∧ (s.completeTray id).formats = s.formats
    ∧ (s.completeTray id).die = s.die ∧ (s.completeTray id).arrival = s.arrival
    ∧ (s.completeTray id).track = s.track ∧ (s.completeTray id).cycle = s.cycle
    ∧ (s.completeTray id).drill = s.drill ∧ (s.completeTray id).setpoints = s.setpoints := by
  simp only [State.completeTray]; repeat' split
  all_goals simp

@[simp] theorem State.stackSheet_frame (id : Nat) :
    (s.stackSheet id).pending = s.pending ∧ (s.stackSheet id).draws = s.draws
    ∧ (s.stackSheet id).resetLow = s.resetLow ∧ (s.stackSheet id).link = s.link
    ∧ (s.stackSheet id).formats = s.formats ∧ (s.stackSheet id).die = s.die
    ∧ (s.stackSheet id).arrival = s.arrival ∧ (s.stackSheet id).drill = s.drill
    ∧ (s.stackSheet id).setpoints = s.setpoints := by simp [State.stackSheet]

@[simp] theorem State.offerHead_frame (id : Nat) :
    (s.offerHead id).pending = s.pending ∧ (s.offerHead id).draws = s.draws
    ∧ (s.offerHead id).resetLow = s.resetLow ∧ (s.offerHead id).link = s.link
    ∧ (s.offerHead id).formats = s.formats ∧ (s.offerHead id).die = s.die
    ∧ (s.offerHead id).arrival = s.arrival ∧ (s.offerHead id).drill = s.drill
    ∧ (s.offerHead id).setpoints = s.setpoints := by
  simp only [State.offerHead]; repeat' split
  all_goals simp

@[simp] theorem State.handOver_frame :
    (s.handOver).pending = s.pending ∧ (s.handOver).draws = s.draws ∧ (s.handOver).resetLow = s.resetLow
    ∧ (s.handOver).link = s.link ∧ (s.handOver).formats = s.formats ∧ (s.handOver).die = s.die
    ∧ (s.handOver).arrival = s.arrival ∧ (s.handOver).drill = s.drill
    ∧ (s.handOver).setpoints = s.setpoints := by
  simp only [State.handOver]; repeat' split
  all_goals simp

@[simp] theorem State.cutDone_frame :
    (s.cutDone).pending = s.pending ∧ (s.cutDone).draws = s.draws ∧ (s.cutDone).resetLow = s.resetLow
    ∧ (s.cutDone).link = s.link ∧ (s.cutDone).line = s.line ∧ (s.cutDone).formats = s.formats
    ∧ (s.cutDone).die = s.die ∧ (s.cutDone).arrival = s.arrival ∧ (s.cutDone).track = s.track
    ∧ (s.cutDone).cycle = s.cycle ∧ (s.cutDone).drill = s.drill ∧ (s.cutDone).setpoints = s.setpoints := by
  simp only [State.cutDone]; repeat' split
  all_goals simp

@[simp] theorem State.feedExpiry_frame :
    (s.feedExpiry).pending = s.pending ∧ (s.feedExpiry).out = s.out ∧ (s.feedExpiry).draws = s.draws
    ∧ (s.feedExpiry).resetLow = s.resetLow ∧ (s.feedExpiry).link = s.link
    ∧ (s.feedExpiry).formats = s.formats ∧ (s.feedExpiry).die = s.die
    ∧ (s.feedExpiry).arrival = s.arrival ∧ (s.feedExpiry).tray = s.tray
    ∧ (s.feedExpiry).closer = s.closer ∧ (s.feedExpiry).setpoints = s.setpoints := by
  simp only [State.feedExpiry]; split <;> simp

@[simp] theorem State.retryCut_frame :
    (s.retryCut).pending = s.pending ∧ (s.retryCut).draws = s.draws ∧ (s.retryCut).resetLow = s.resetLow
    ∧ (s.retryCut).link = s.link ∧ (s.retryCut).line = s.line ∧ (s.retryCut).formats = s.formats
    ∧ (s.retryCut).books = s.books ∧ (s.retryCut).die = s.die ∧ (s.retryCut).arrival = s.arrival
    ∧ (s.retryCut).track = s.track ∧ (s.retryCut).cycle = s.cycle ∧ (s.retryCut).drill = s.drill
    ∧ (s.retryCut).tray = s.tray ∧ (s.retryCut).closer = s.closer ∧ (s.retryCut).setpoints = s.setpoints := by
  simp only [State.retryCut]; repeat' split
  all_goals simp

@[simp] theorem State.supply_frame (a b c : Nat) :
    (s.supply a b c).pending = s.pending ∧ (s.supply a b c).draws = s.draws
    ∧ (s.supply a b c).resetLow = s.resetLow ∧ (s.supply a b c).link = s.link
    ∧ (s.supply a b c).line = s.line ∧ (s.supply a b c).formats = s.formats
    ∧ (s.supply a b c).die = s.die ∧ (s.supply a b c).arrival = s.arrival
    ∧ (s.supply a b c).track = s.track ∧ (s.supply a b c).cycle = s.cycle
    ∧ (s.supply a b c).drill = s.drill ∧ (s.supply a b c).setpoints = s.setpoints := by simp [State.supply]

@[simp] theorem State.closeDone_frame :
    (s.closeDone).pending = s.pending ∧ (s.closeDone).draws = s.draws
    ∧ (s.closeDone).resetLow = s.resetLow ∧ (s.closeDone).link = s.link ∧ (s.closeDone).line = s.line
    ∧ (s.closeDone).formats = s.formats ∧ (s.closeDone).die = s.die ∧ (s.closeDone).arrival = s.arrival
    ∧ (s.closeDone).track = s.track ∧ (s.closeDone).cycle = s.cycle ∧ (s.closeDone).drill = s.drill
    ∧ (s.closeDone).setpoints = s.setpoints := by
  simp only [State.closeDone]; split <;> simp

@[simp] theorem State.closeExpiry_frame :
    (s.closeExpiry).pending = s.pending ∧ (s.closeExpiry).out = s.out ∧ (s.closeExpiry).draws = s.draws
    ∧ (s.closeExpiry).resetLow = s.resetLow ∧ (s.closeExpiry).link = s.link
    ∧ (s.closeExpiry).formats = s.formats ∧ (s.closeExpiry).die = s.die
    ∧ (s.closeExpiry).arrival = s.arrival ∧ (s.closeExpiry).tray = s.tray ∧ (s.closeExpiry).wire = s.wire
    ∧ (s.closeExpiry).setpoints = s.setpoints := by
  simp only [State.closeExpiry]; split <;> simp

end Sys2Proof.Machine
end

