-- ==== Sys2Proof/Laws/DrillStationFrame.lean ====
section
/-! SUPPORT. Frames: what each operation of the Drill Controller leaves unchanged, one lemma per operation. -/

namespace Sys2Proof.Machine

variable (s : State)

@[simp] theorem State.countBit_frame :
    (s.countBit).pending = s.pending ∧ (s.countBit).out = s.out ∧ (s.countBit).draws = s.draws
    ∧ (s.countBit).resetLow = s.resetLow ∧ (s.countBit).link = s.link ∧ (s.countBit).line = s.line
    ∧ (s.countBit).formats = s.formats ∧ (s.countBit).books = s.books ∧ (s.countBit).die = s.die
    ∧ (s.countBit).arrival = s.arrival ∧ (s.countBit).track = s.track ∧ (s.countBit).cycle = s.cycle
    ∧ (s.countBit).tray = s.tray ∧ (s.countBit).wire = s.wire ∧ (s.countBit).closer = s.closer
    ∧ (s.countBit).setpoints = s.setpoints := by
  simp only [State.countBit]; split <;> simp

@[simp] theorem State.countHole_frame :
    (s.countHole).pending = s.pending ∧ (s.countHole).out = s.out ∧ (s.countHole).draws = s.draws
    ∧ (s.countHole).resetLow = s.resetLow ∧ (s.countHole).link = s.link ∧ (s.countHole).line = s.line
    ∧ (s.countHole).formats = s.formats ∧ (s.countHole).books = s.books ∧ (s.countHole).die = s.die
    ∧ (s.countHole).arrival = s.arrival ∧ (s.countHole).cycle = s.cycle ∧ (s.countHole).tray = s.tray
    ∧ (s.countHole).wire = s.wire ∧ (s.countHole).closer = s.closer
    ∧ (s.countHole).setpoints = s.setpoints := by simp [State.countHole]

@[simp] theorem State.nextHole_frame :
    (s.nextHole).pending = s.pending ∧ (s.nextHole).draws = s.draws ∧ (s.nextHole).resetLow = s.resetLow
    ∧ (s.nextHole).link = s.link ∧ (s.nextHole).line = s.line ∧ (s.nextHole).notices = s.notices
    ∧ (s.nextHole).formats = s.formats ∧ (s.nextHole).books = s.books ∧ (s.nextHole).die = s.die
    ∧ (s.nextHole).arrival = s.arrival ∧ (s.nextHole).cycle = s.cycle ∧ (s.nextHole).tray = s.tray
    ∧ (s.nextHole).wire = s.wire ∧ (s.nextHole).closer = s.closer ∧ (s.nextHole).setpoints = s.setpoints := by
  simp only [State.nextHole]; split <;> simp

@[simp] theorem State.suspendBoard_frame (o : Origin) :
    (s.suspendBoard o).pending = s.pending ∧ (s.suspendBoard o).out = s.out
    ∧ (s.suspendBoard o).draws = s.draws ∧ (s.suspendBoard o).resetLow = s.resetLow
    ∧ (s.suspendBoard o).link = s.link ∧ (s.suspendBoard o).line = s.line
    ∧ (s.suspendBoard o).formats = s.formats ∧ (s.suspendBoard o).books = s.books
    ∧ (s.suspendBoard o).die = s.die ∧ (s.suspendBoard o).arrival = s.arrival
    ∧ (s.suspendBoard o).track = s.track ∧ (s.suspendBoard o).cycle = s.cycle
    ∧ (s.suspendBoard o).tray = s.tray ∧ (s.suspendBoard o).wire = s.wire
    ∧ (s.suspendBoard o).closer = s.closer ∧ (s.suspendBoard o).setpoints = s.setpoints := by simp [State.suspendBoard]

@[simp] theorem State.holeDone_frame :
    (s.holeDone).pending = s.pending ∧ (s.holeDone).draws = s.draws ∧ (s.holeDone).resetLow = s.resetLow
    ∧ (s.holeDone).link = s.link ∧ (s.holeDone).line = s.line ∧ (s.holeDone).formats = s.formats
    ∧ (s.holeDone).books = s.books ∧ (s.holeDone).die = s.die ∧ (s.holeDone).arrival = s.arrival
    ∧ (s.holeDone).cycle = s.cycle ∧ (s.holeDone).tray = s.tray ∧ (s.holeDone).wire = s.wire
    ∧ (s.holeDone).closer = s.closer ∧ (s.holeDone).setpoints = s.setpoints := by
  simp only [State.holeDone]; repeat' split
  all_goals simp

@[simp] theorem State.stepExpiry_frame :
    (s.stepExpiry).pending = s.pending ∧ (s.stepExpiry).draws = s.draws
    ∧ (s.stepExpiry).resetLow = s.resetLow ∧ (s.stepExpiry).link = s.link
    ∧ (s.stepExpiry).formats = s.formats ∧ (s.stepExpiry).die = s.die
    ∧ (s.stepExpiry).arrival = s.arrival ∧ (s.stepExpiry).setpoints = s.setpoints := by
  simp only [State.stepExpiry]; repeat' split
  all_goals simp

@[simp] theorem State.resumeMark_frame :
    (s.resumeMark).pending = s.pending ∧ (s.resumeMark).out = s.out ∧ (s.resumeMark).draws = s.draws
    ∧ (s.resumeMark).resetLow = s.resetLow ∧ (s.resumeMark).link = s.link ∧ (s.resumeMark).line = s.line
    ∧ (s.resumeMark).notices = s.notices ∧ (s.resumeMark).formats = s.formats
    ∧ (s.resumeMark).books = s.books ∧ (s.resumeMark).die = s.die ∧ (s.resumeMark).arrival = s.arrival
    ∧ (s.resumeMark).track = s.track ∧ (s.resumeMark).cycle = s.cycle ∧ (s.resumeMark).tray = s.tray
    ∧ (s.resumeMark).wire = s.wire ∧ (s.resumeMark).closer = s.closer
    ∧ (s.resumeMark).setpoints = s.setpoints := by simp [State.resumeMark]

@[simp] theorem State.resumeBoard_frame :
    (s.resumeBoard).pending = s.pending ∧ (s.resumeBoard).draws = s.draws
    ∧ (s.resumeBoard).resetLow = s.resetLow ∧ (s.resumeBoard).link = s.link
    ∧ (s.resumeBoard).line = s.line ∧ (s.resumeBoard).formats = s.formats
    ∧ (s.resumeBoard).books = s.books ∧ (s.resumeBoard).die = s.die ∧ (s.resumeBoard).arrival = s.arrival
    ∧ (s.resumeBoard).cycle = s.cycle ∧ (s.resumeBoard).tray = s.tray ∧ (s.resumeBoard).wire = s.wire
    ∧ (s.resumeBoard).closer = s.closer ∧ (s.resumeBoard).setpoints = s.setpoints := by simp [State.resumeBoard]

@[simp] theorem State.takeBoard_frame (x : Sheet) :
    (s.takeBoard x).pending = s.pending ∧ (s.takeBoard x).draws = s.draws
    ∧ (s.takeBoard x).resetLow = s.resetLow ∧ (s.takeBoard x).link = s.link
    ∧ (s.takeBoard x).line = s.line ∧ (s.takeBoard x).notices = s.notices
    ∧ (s.takeBoard x).formats = s.formats ∧ (s.takeBoard x).books = s.books ∧ (s.takeBoard x).die = s.die
    ∧ (s.takeBoard x).arrival = s.arrival ∧ (s.takeBoard x).track = s.track
    ∧ (s.takeBoard x).cycle = s.cycle ∧ (s.takeBoard x).tray = s.tray ∧ (s.takeBoard x).wire = s.wire
    ∧ (s.takeBoard x).closer = s.closer ∧ (s.takeBoard x).setpoints = s.setpoints := by simp [State.takeBoard]

end Sys2Proof.Machine
end

