-- ==== Sys2Proof/Laws/SheetTrackFrame.lean ====
section
/-! SUPPORT. Frames: what each operation of the Sheet Track leaves unchanged, one lemma per operation. -/

namespace Sys2Proof.Machine

variable (s : State)

/-- DIVERT_A is raised exactly at LANE (R67). -/
@[simp] theorem Diverter.divertA_iff (d : Diverter) : d.divertA = true ↔ d = .lane := by cases d <;> simp [Diverter.divertA]

/-- DIVERT_B is raised exactly at DRILL (R67). -/
@[simp] theorem Diverter.divertB_iff (d : Diverter) : d.divertB = true ↔ d = .drill := by cases d <;> simp [Diverter.divertB]

@[simp] theorem State.lapsePermit_frame :
    (s.lapsePermit).pending = s.pending ∧ (s.lapsePermit).draws = s.draws
    ∧ (s.lapsePermit).resetLow = s.resetLow ∧ (s.lapsePermit).link = s.link
    ∧ (s.lapsePermit).formats = s.formats ∧ (s.lapsePermit).die = s.die
    ∧ (s.lapsePermit).arrival = s.arrival ∧ (s.lapsePermit).drill = s.drill
    ∧ (s.lapsePermit).tray = s.tray ∧ (s.lapsePermit).wire = s.wire ∧ (s.lapsePermit).closer = s.closer
    ∧ (s.lapsePermit).setpoints = s.setpoints := by
  simp only [State.lapsePermit]; split <;> simp

@[simp] theorem State.admission_frame :
    (s.admission).pending = s.pending ∧ (s.admission).out = s.out ∧ (s.admission).draws = s.draws
    ∧ (s.admission).resetLow = s.resetLow ∧ (s.admission).link = s.link ∧ (s.admission).line = s.line
    ∧ (s.admission).notices = s.notices ∧ (s.admission).formats = s.formats
    ∧ (s.admission).books = s.books ∧ (s.admission).die = s.die ∧ (s.admission).arrival = s.arrival
    ∧ (s.admission).cycle = s.cycle ∧ (s.admission).drill = s.drill ∧ (s.admission).tray = s.tray
    ∧ (s.admission).wire = s.wire ∧ (s.admission).closer = s.closer
    ∧ (s.admission).setpoints = s.setpoints := by
  simp only [State.admission]; repeat' split
  all_goals simp

@[simp] theorem State.departBin_frame (x : Sheet) :
    (s.departBin x).pending = s.pending ∧ (s.departBin x).draws = s.draws
    ∧ (s.departBin x).resetLow = s.resetLow ∧ (s.departBin x).link = s.link
    ∧ (s.departBin x).formats = s.formats ∧ (s.departBin x).die = s.die
    ∧ (s.departBin x).arrival = s.arrival ∧ (s.departBin x).drill = s.drill
    ∧ (s.departBin x).tray = s.tray ∧ (s.departBin x).wire = s.wire ∧ (s.departBin x).closer = s.closer
    ∧ (s.departBin x).setpoints = s.setpoints := by simp [State.departBin]

@[simp] theorem State.departLane_frame (x : Sheet) :
    (s.departLane x).pending = s.pending ∧ (s.departLane x).out = s.out
    ∧ (s.departLane x).draws = s.draws ∧ (s.departLane x).resetLow = s.resetLow
    ∧ (s.departLane x).link = s.link ∧ (s.departLane x).line = s.line
    ∧ (s.departLane x).notices = s.notices ∧ (s.departLane x).formats = s.formats
    ∧ (s.departLane x).books = s.books ∧ (s.departLane x).die = s.die
    ∧ (s.departLane x).arrival = s.arrival ∧ (s.departLane x).cycle = s.cycle
    ∧ (s.departLane x).drill = s.drill ∧ (s.departLane x).tray = s.tray ∧ (s.departLane x).wire = s.wire
    ∧ (s.departLane x).closer = s.closer ∧ (s.departLane x).setpoints = s.setpoints := by simp [State.departLane]

@[simp] theorem State.departDrill_frame (x : Sheet) :
    (s.departDrill x).pending = s.pending ∧ (s.departDrill x).draws = s.draws
    ∧ (s.departDrill x).resetLow = s.resetLow ∧ (s.departDrill x).link = s.link
    ∧ (s.departDrill x).line = s.line ∧ (s.departDrill x).notices = s.notices
    ∧ (s.departDrill x).formats = s.formats ∧ (s.departDrill x).books = s.books
    ∧ (s.departDrill x).die = s.die ∧ (s.departDrill x).arrival = s.arrival
    ∧ (s.departDrill x).cycle = s.cycle ∧ (s.departDrill x).tray = s.tray
    ∧ (s.departDrill x).wire = s.wire ∧ (s.departDrill x).closer = s.closer
    ∧ (s.departDrill x).setpoints = s.setpoints := by simp [State.departDrill]

@[simp] theorem State.divert_frame :
    (s.divert).pending = s.pending ∧ (s.divert).draws = s.draws ∧ (s.divert).resetLow = s.resetLow
    ∧ (s.divert).link = s.link ∧ (s.divert).formats = s.formats ∧ (s.divert).die = s.die
    ∧ (s.divert).arrival = s.arrival ∧ (s.divert).tray = s.tray ∧ (s.divert).wire = s.wire
    ∧ (s.divert).closer = s.closer ∧ (s.divert).setpoints = s.setpoints := by
  simp only [State.divert]; repeat' split
  all_goals simp

@[simp] theorem State.moveToNotch_frame :
    (s.moveToNotch).pending = s.pending ∧ (s.moveToNotch).draws = s.draws
    ∧ (s.moveToNotch).resetLow = s.resetLow ∧ (s.moveToNotch).link = s.link
    ∧ (s.moveToNotch).line = s.line ∧ (s.moveToNotch).notices = s.notices
    ∧ (s.moveToNotch).formats = s.formats ∧ (s.moveToNotch).books = s.books ∧ (s.moveToNotch).die = s.die
    ∧ (s.moveToNotch).arrival = s.arrival ∧ (s.moveToNotch).cycle = s.cycle
    ∧ (s.moveToNotch).drill = s.drill ∧ (s.moveToNotch).tray = s.tray ∧ (s.moveToNotch).wire = s.wire
    ∧ (s.moveToNotch).closer = s.closer := by
  simp only [State.moveToNotch]; repeat' split
  all_goals simp

@[simp] theorem State.setPunch_frame (x : Sheet) :
    (s.setPunch x).pending = s.pending ∧ (s.setPunch x).out = s.out ∧ (s.setPunch x).draws = s.draws
    ∧ (s.setPunch x).resetLow = s.resetLow ∧ (s.setPunch x).link = s.link ∧ (s.setPunch x).line = s.line
    ∧ (s.setPunch x).notices = s.notices ∧ (s.setPunch x).formats = s.formats
    ∧ (s.setPunch x).books = s.books ∧ (s.setPunch x).die = s.die ∧ (s.setPunch x).arrival = s.arrival
    ∧ (s.setPunch x).cycle = s.cycle ∧ (s.setPunch x).drill = s.drill ∧ (s.setPunch x).tray = s.tray
    ∧ (s.setPunch x).wire = s.wire ∧ (s.setPunch x).closer = s.closer
    ∧ (s.setPunch x).setpoints = s.setpoints := by simp [State.setPunch]

@[simp] theorem State.planMade_frame (x : Sheet) (b : PlanBody) :
    (s.planMade x b).pending = s.pending ∧ (s.planMade x b).draws = s.draws
    ∧ (s.planMade x b).resetLow = s.resetLow ∧ (s.planMade x b).link = s.link
    ∧ (s.planMade x b).line = s.line ∧ (s.planMade x b).notices = s.notices
    ∧ (s.planMade x b).formats = s.formats ∧ (s.planMade x b).die = s.die
    ∧ (s.planMade x b).arrival = s.arrival ∧ (s.planMade x b).cycle = s.cycle
    ∧ (s.planMade x b).drill = s.drill ∧ (s.planMade x b).tray = s.tray ∧ (s.planMade x b).wire = s.wire
    ∧ (s.planMade x b).closer = s.closer := by
  simp only [State.planMade]; split <;> simp

@[simp] theorem State.planFailed_frame (x : Sheet) (r : Reason) :
    (s.planFailed x r).pending = s.pending ∧ (s.planFailed x r).draws = s.draws
    ∧ (s.planFailed x r).resetLow = s.resetLow ∧ (s.planFailed x r).link = s.link
    ∧ (s.planFailed x r).line = s.line ∧ (s.planFailed x r).formats = s.formats
    ∧ (s.planFailed x r).die = s.die ∧ (s.planFailed x r).arrival = s.arrival
    ∧ (s.planFailed x r).cycle = s.cycle ∧ (s.planFailed x r).setpoints = s.setpoints := by simp [State.planFailed]

@[simp] theorem State.planPoint_frame (x : Sheet) :
    (s.planPoint x).pending = s.pending ∧ (s.planPoint x).draws = s.draws
    ∧ (s.planPoint x).resetLow = s.resetLow ∧ (s.planPoint x).link = s.link
    ∧ (s.planPoint x).line = s.line ∧ (s.planPoint x).formats = s.formats ∧ (s.planPoint x).die = s.die
    ∧ (s.planPoint x).arrival = s.arrival ∧ (s.planPoint x).cycle = s.cycle := by
  simp only [State.planPoint]; repeat' split
  all_goals simp

@[simp] theorem State.moveToPunch_frame :
    (s.moveToPunch).pending = s.pending ∧ (s.moveToPunch).draws = s.draws
    ∧ (s.moveToPunch).resetLow = s.resetLow ∧ (s.moveToPunch).link = s.link
    ∧ (s.moveToPunch).line = s.line ∧ (s.moveToPunch).formats = s.formats ∧ (s.moveToPunch).die = s.die
    ∧ (s.moveToPunch).cycle = s.cycle := by
  simp only [State.moveToPunch]; split <;> simp

@[simp] theorem State.advanceTrack_frame :
    (s.advanceTrack).pending = s.pending ∧ (s.advanceTrack).draws = s.draws
    ∧ (s.advanceTrack).resetLow = s.resetLow ∧ (s.advanceTrack).link = s.link
    ∧ (s.advanceTrack).formats = s.formats ∧ (s.advanceTrack).die = s.die := by simp [State.advanceTrack]

end Sys2Proof.Machine
end

