-- ==== Sys2Proof/Laws/DieInterfaceFrame.lean ====
section
/-! SUPPORT. Frames: what each operation of the Die Interface leaves unchanged, one lemma per operation. -/

namespace Sys2Proof.Machine

variable (s : State)

@[simp] theorem State.contactCloses_frame :
    (s.contactCloses).pending = s.pending ∧ (s.contactCloses).draws = s.draws
    ∧ (s.contactCloses).resetLow = s.resetLow ∧ (s.contactCloses).link = s.link
    ∧ (s.contactCloses).line = s.line ∧ (s.contactCloses).notices = s.notices
    ∧ (s.contactCloses).formats = s.formats ∧ (s.contactCloses).books = s.books
    ∧ (s.contactCloses).arrival = s.arrival ∧ (s.contactCloses).track = s.track
    ∧ (s.contactCloses).cycle = s.cycle ∧ (s.contactCloses).drill = s.drill
    ∧ (s.contactCloses).tray = s.tray ∧ (s.contactCloses).wire = s.wire
    ∧ (s.contactCloses).closer = s.closer ∧ (s.contactCloses).setpoints = s.setpoints := by
  simp only [State.contactCloses]; split <;> simp

@[simp] theorem State.dieGone_frame :
    (s.dieGone).pending = s.pending ∧ (s.dieGone).out = s.out ∧ (s.dieGone).draws = s.draws
    ∧ (s.dieGone).resetLow = s.resetLow ∧ (s.dieGone).link = s.link ∧ (s.dieGone).formats = s.formats
    ∧ (s.dieGone).die = s.die ∧ (s.dieGone).arrival = s.arrival ∧ (s.dieGone).tray = s.tray
    ∧ (s.dieGone).wire = s.wire ∧ (s.dieGone).closer = s.closer ∧ (s.dieGone).setpoints = s.setpoints := by
  simp only [State.dieGone]; split <;> simp

@[simp] theorem State.contactOpens_frame :
    (s.contactOpens).pending = s.pending ∧ (s.contactOpens).out = s.out
    ∧ (s.contactOpens).draws = s.draws ∧ (s.contactOpens).resetLow = s.resetLow
    ∧ (s.contactOpens).link = s.link ∧ (s.contactOpens).formats = s.formats
    ∧ (s.contactOpens).arrival = s.arrival ∧ (s.contactOpens).tray = s.tray
    ∧ (s.contactOpens).wire = s.wire ∧ (s.contactOpens).closer = s.closer
    ∧ (s.contactOpens).setpoints = s.setpoints := by
  simp only [State.contactOpens]; split <;> simp

@[simp] theorem State.mount_frame (d : DieRecord) :
    (s.mount d).pending = s.pending ∧ (s.mount d).out = s.out ∧ (s.mount d).draws = s.draws
    ∧ (s.mount d).resetLow = s.resetLow ∧ (s.mount d).link = s.link ∧ (s.mount d).formats = s.formats
    ∧ (s.mount d).books = s.books ∧ (s.mount d).arrival = s.arrival ∧ (s.mount d).track = s.track
    ∧ (s.mount d).cycle = s.cycle ∧ (s.mount d).drill = s.drill ∧ (s.mount d).tray = s.tray
    ∧ (s.mount d).wire = s.wire ∧ (s.mount d).closer = s.closer ∧ (s.mount d).setpoints = s.setpoints := by
  simp only [State.mount]; split <;> simp

@[simp] theorem State.refuseDie_frame (c : DieCheck) :
    (s.refuseDie c).pending = s.pending ∧ (s.refuseDie c).out = s.out ∧ (s.refuseDie c).draws = s.draws
    ∧ (s.refuseDie c).resetLow = s.resetLow ∧ (s.refuseDie c).link = s.link
    ∧ (s.refuseDie c).line = s.line ∧ (s.refuseDie c).formats = s.formats
    ∧ (s.refuseDie c).books = s.books ∧ (s.refuseDie c).arrival = s.arrival
    ∧ (s.refuseDie c).track = s.track ∧ (s.refuseDie c).cycle = s.cycle ∧ (s.refuseDie c).drill = s.drill
    ∧ (s.refuseDie c).tray = s.tray ∧ (s.refuseDie c).wire = s.wire ∧ (s.refuseDie c).closer = s.closer
    ∧ (s.refuseDie c).setpoints = s.setpoints := by simp [State.refuseDie]

@[simp] theorem State.readComplete_frame (d : List Byte) :
    (s.readComplete d).pending = s.pending ∧ (s.readComplete d).out = s.out
    ∧ (s.readComplete d).draws = s.draws ∧ (s.readComplete d).resetLow = s.resetLow
    ∧ (s.readComplete d).link = s.link ∧ (s.readComplete d).formats = s.formats
    ∧ (s.readComplete d).books = s.books ∧ (s.readComplete d).arrival = s.arrival
    ∧ (s.readComplete d).track = s.track ∧ (s.readComplete d).cycle = s.cycle
    ∧ (s.readComplete d).drill = s.drill ∧ (s.readComplete d).tray = s.tray
    ∧ (s.readComplete d).wire = s.wire ∧ (s.readComplete d).closer = s.closer
    ∧ (s.readComplete d).setpoints = s.setpoints := by
  simp only [State.readComplete]; repeat' split
  all_goals simp

@[simp] theorem State.setPins_frame (d : DieRecord) (m : List Pin) :
    (s.setPins d m).pending = s.pending ∧ (s.setPins d m).out = s.out ∧ (s.setPins d m).draws = s.draws
    ∧ (s.setPins d m).resetLow = s.resetLow ∧ (s.setPins d m).link = s.link
    ∧ (s.setPins d m).line = s.line ∧ (s.setPins d m).notices = s.notices
    ∧ (s.setPins d m).formats = s.formats ∧ (s.setPins d m).books = s.books
    ∧ (s.setPins d m).arrival = s.arrival ∧ (s.setPins d m).track = s.track
    ∧ (s.setPins d m).cycle = s.cycle ∧ (s.setPins d m).drill = s.drill ∧ (s.setPins d m).tray = s.tray
    ∧ (s.setPins d m).wire = s.wire ∧ (s.setPins d m).closer = s.closer
    ∧ (s.setPins d m).setpoints = s.setpoints := by simp [State.setPins]

end Sys2Proof.Machine
end

