-- ==== Sys2Proof/Laws/CycleUnitFrame.lean ====
section
/-! SUPPORT. Frames: what each operation of the Cycle Unit leaves unchanged, one lemma per operation. -/

namespace Sys2Proof.Machine

variable (s : State)

@[simp] theorem State.nullStroke_frame :
    (s.nullStroke).pending = s.pending ∧ (s.nullStroke).draws = s.draws
    ∧ (s.nullStroke).resetLow = s.resetLow ∧ (s.nullStroke).link = s.link ∧ (s.nullStroke).line = s.line
    ∧ (s.nullStroke).notices = s.notices ∧ (s.nullStroke).formats = s.formats
    ∧ (s.nullStroke).books = s.books ∧ (s.nullStroke).die = s.die ∧ (s.nullStroke).arrival = s.arrival
    ∧ (s.nullStroke).track = s.track ∧ (s.nullStroke).drill = s.drill ∧ (s.nullStroke).tray = s.tray
    ∧ (s.nullStroke).wire = s.wire ∧ (s.nullStroke).closer = s.closer
    ∧ (s.nullStroke).setpoints = s.setpoints := by simp [State.nullStroke]

@[simp] theorem State.punchStroke_frame (x : Sheet) (p : List Nat) :
    (s.punchStroke x p).pending = s.pending ∧ (s.punchStroke x p).draws = s.draws
    ∧ (s.punchStroke x p).resetLow = s.resetLow ∧ (s.punchStroke x p).link = s.link
    ∧ (s.punchStroke x p).line = s.line ∧ (s.punchStroke x p).notices = s.notices
    ∧ (s.punchStroke x p).formats = s.formats ∧ (s.punchStroke x p).books = s.books
    ∧ (s.punchStroke x p).die = s.die ∧ (s.punchStroke x p).arrival = s.arrival
    ∧ (s.punchStroke x p).drill = s.drill ∧ (s.punchStroke x p).tray = s.tray
    ∧ (s.punchStroke x p).wire = s.wire ∧ (s.punchStroke x p).closer = s.closer
    ∧ (s.punchStroke x p).setpoints = s.setpoints := by simp [State.punchStroke]

@[simp] theorem State.failAtClose_frame (x : Sheet) (r : Reason) :
    (s.failAtClose x r).pending = s.pending ∧ (s.failAtClose x r).draws = s.draws
    ∧ (s.failAtClose x r).resetLow = s.resetLow ∧ (s.failAtClose x r).link = s.link
    ∧ (s.failAtClose x r).line = s.line ∧ (s.failAtClose x r).formats = s.formats
    ∧ (s.failAtClose x r).die = s.die ∧ (s.failAtClose x r).arrival = s.arrival
    ∧ (s.failAtClose x r).setpoints = s.setpoints := by simp [State.failAtClose]

@[simp] theorem State.closePunch_frame (b : Bool) :
    (s.closePunch b).pending = s.pending ∧ (s.closePunch b).draws = s.draws
    ∧ (s.closePunch b).resetLow = s.resetLow ∧ (s.closePunch b).link = s.link
    ∧ (s.closePunch b).line = s.line ∧ (s.closePunch b).formats = s.formats
    ∧ (s.closePunch b).die = s.die ∧ (s.closePunch b).arrival = s.arrival
    ∧ (s.closePunch b).setpoints = s.setpoints := by
  simp only [State.closePunch]; repeat' split
  all_goals simp

@[simp] theorem State.fireNotch_frame :
    (s.fireNotch).pending = s.pending ∧ (s.fireNotch).draws = s.draws
    ∧ (s.fireNotch).resetLow = s.resetLow ∧ (s.fireNotch).link = s.link ∧ (s.fireNotch).line = s.line
    ∧ (s.fireNotch).notices = s.notices ∧ (s.fireNotch).formats = s.formats
    ∧ (s.fireNotch).books = s.books ∧ (s.fireNotch).die = s.die ∧ (s.fireNotch).arrival = s.arrival
    ∧ (s.fireNotch).cycle = s.cycle ∧ (s.fireNotch).drill = s.drill ∧ (s.fireNotch).tray = s.tray
    ∧ (s.fireNotch).wire = s.wire ∧ (s.fireNotch).closer = s.closer
    ∧ (s.fireNotch).setpoints = s.setpoints := by simp [State.fireNotch]

@[simp] theorem State.closeEvent_frame (b : Bool) :
    (s.closeEvent b).pending = s.pending ∧ (s.closeEvent b).resetLow = s.resetLow
    ∧ (s.closeEvent b).link = s.link ∧ (s.closeEvent b).line = s.line
    ∧ (s.closeEvent b).formats = s.formats ∧ (s.closeEvent b).die = s.die
    ∧ (s.closeEvent b).arrival = s.arrival ∧ (s.closeEvent b).setpoints = s.setpoints := by
  simp only [State.closeEvent]; repeat' split
  all_goals simp

@[simp] theorem State.pushWorn_frame (k : Nat) :
    (s.pushWorn k).pending = s.pending ∧ (s.pushWorn k).out = s.out ∧ (s.pushWorn k).draws = s.draws
    ∧ (s.pushWorn k).resetLow = s.resetLow ∧ (s.pushWorn k).link = s.link ∧ (s.pushWorn k).line = s.line
    ∧ (s.pushWorn k).formats = s.formats ∧ (s.pushWorn k).books = s.books ∧ (s.pushWorn k).die = s.die
    ∧ (s.pushWorn k).arrival = s.arrival ∧ (s.pushWorn k).track = s.track
    ∧ (s.pushWorn k).cycle = s.cycle ∧ (s.pushWorn k).drill = s.drill ∧ (s.pushWorn k).tray = s.tray
    ∧ (s.pushWorn k).wire = s.wire ∧ (s.pushWorn k).closer = s.closer
    ∧ (s.pushWorn k).setpoints = s.setpoints := by simp [State.pushWorn]

/-- The PIN_WORN events of one OPEN enter events and nothing else. -/
@[simp] theorem State.pushWorns_frame (l : List Nat) : ∀ t : State,
    (l.foldl State.pushWorn t).pending = t.pending ∧ (l.foldl State.pushWorn t).out = t.out
    ∧ (l.foldl State.pushWorn t).draws = t.draws ∧ (l.foldl State.pushWorn t).resetLow = t.resetLow
    ∧ (l.foldl State.pushWorn t).link = t.link ∧ (l.foldl State.pushWorn t).line = t.line
    ∧ (l.foldl State.pushWorn t).formats = t.formats ∧ (l.foldl State.pushWorn t).books = t.books
    ∧ (l.foldl State.pushWorn t).die = t.die ∧ (l.foldl State.pushWorn t).arrival = t.arrival
    ∧ (l.foldl State.pushWorn t).track = t.track ∧ (l.foldl State.pushWorn t).cycle = t.cycle
    ∧ (l.foldl State.pushWorn t).drill = t.drill ∧ (l.foldl State.pushWorn t).tray = t.tray
    ∧ (l.foldl State.pushWorn t).wire = t.wire ∧ (l.foldl State.pushWorn t).closer = t.closer
    ∧ (l.foldl State.pushWorn t).setpoints = t.setpoints := by
  induction l with
  | nil => simp
  | cons k l ih => intro t; simp [List.foldl_cons, ih]

@[simp] theorem State.countStroke_frame :
    s.countStroke.pending = s.pending ∧ s.countStroke.out = s.out ∧ s.countStroke.draws = s.draws
    ∧ s.countStroke.resetLow = s.resetLow ∧ s.countStroke.link = s.link ∧ s.countStroke.line = s.line
    ∧ s.countStroke.formats = s.formats ∧ s.countStroke.books = s.books
    ∧ s.countStroke.arrival = s.arrival ∧ s.countStroke.track = s.track ∧ s.countStroke.drill = s.drill
    ∧ s.countStroke.tray = s.tray ∧ s.countStroke.wire = s.wire ∧ s.countStroke.closer = s.closer
    ∧ s.countStroke.setpoints = s.setpoints := by
  unfold State.countStroke; dsimp only; split <;> split <;> simp

@[simp] theorem State.openEvent_frame :
    (s.openEvent).pending = s.pending ∧ (s.openEvent).draws = s.draws
    ∧ (s.openEvent).resetLow = s.resetLow ∧ (s.openEvent).link = s.link
    ∧ (s.openEvent).formats = s.formats ∧ (s.openEvent).arrival = s.arrival
    ∧ (s.openEvent).drill = s.drill ∧ (s.openEvent).setpoints = s.setpoints := by simp [State.openEvent]

@[simp] theorem State.advanceEvent_frame :
    (s.advanceEvent).pending = s.pending ∧ (s.advanceEvent).draws = s.draws
    ∧ (s.advanceEvent).resetLow = s.resetLow ∧ (s.advanceEvent).link = s.link
    ∧ (s.advanceEvent).formats = s.formats ∧ (s.advanceEvent).die = s.die := by simp [State.advanceEvent]

@[simp] theorem State.completeCycle_frame :
    (s.completeCycle).pending = s.pending ∧ (s.completeCycle).draws = s.draws
    ∧ (s.completeCycle).resetLow = s.resetLow ∧ (s.completeCycle).link = s.link
    ∧ (s.completeCycle).formats = s.formats ∧ (s.completeCycle).books = s.books
    ∧ (s.completeCycle).die = s.die ∧ (s.completeCycle).arrival = s.arrival
    ∧ (s.completeCycle).track = s.track ∧ (s.completeCycle).drill = s.drill
    ∧ (s.completeCycle).tray = s.tray ∧ (s.completeCycle).wire = s.wire
    ∧ (s.completeCycle).closer = s.closer ∧ (s.completeCycle).setpoints = s.setpoints := by
  simp only [State.completeCycle]; split <;> simp

@[simp] theorem State.cycleStart_frame :
    (s.cycleStart).pending = s.pending ∧ (s.cycleStart).draws = s.draws
    ∧ (s.cycleStart).resetLow = s.resetLow ∧ (s.cycleStart).link = s.link
    ∧ (s.cycleStart).formats = s.formats ∧ (s.cycleStart).die = s.die
    ∧ (s.cycleStart).arrival = s.arrival ∧ (s.cycleStart).tray = s.tray ∧ (s.cycleStart).wire = s.wire
    ∧ (s.cycleStart).closer = s.closer ∧ (s.cycleStart).setpoints = s.setpoints := by
  simp only [State.cycleStart]; split <;> simp

@[simp] theorem State.countPulse_frame (b : Bool) :
    (s.countPulse b).pending = s.pending ∧ (s.countPulse b).resetLow = s.resetLow
    ∧ (s.countPulse b).link = s.link ∧ (s.countPulse b).formats = s.formats := by
  simp only [State.countPulse]; repeat' split
  all_goals simp

@[simp] theorem State.encPulse_frame (b : Bool) :
    (s.encPulse b).pending = s.pending ∧ (s.encPulse b).resetLow = s.resetLow
    ∧ (s.encPulse b).link = s.link ∧ (s.encPulse b).formats = s.formats := by simp [State.encPulse]

end Sys2Proof.Machine
end

