-- ==== Sys2Proof/Laws/Answer.lean ====
section
/-! SUPPORT. What a request can do: it is dispatched, waits in the slot or is dropped; and what its reply holds. -/

namespace Sys2Proof.Machine

open Sys2Proof.Safety

theorem le16_length (n : Nat) : (le16 n).length = 2 := rfl

theorem le32_length (n : Nat) : (le32 n).length = 4 := rfl

/-- A frame is 5 bytes longer than its content (R164). -/
theorem frameBytes_length (content : List Byte) : (frameBytes content).length = content.length + 5 := by
  simp [frameBytes, le16_length]; omega

/-- A reply is 10 bytes longer than its body (R164, R173). -/
@[simp] theorem Reply.bytes_length (r : Reply) : r.bytes.length = r.body.length + 10 := by
  simp [Reply.bytes, frameBytes_length]

/-- Every request kind is found again by its kind byte (R172). -/
@[simp] theorem kindOf_kindByte (r : RequestKind) : kindOf (kindByte r) = some r := by cases r <;> decide

/-- The kind of a reply to a known request (R173). -/
@[simp] theorem replyKind_kindByte (r : RequestKind) : replyKind (kindByte r) = kindByte r + 0x80 := by
  cases r <;> decide

/-- A completed restart: what it keeps of the part, and what it drives (R161, R87, R101). -/
theorem State.restart_kept (s : State) (cause : StartCause) (x : Straps) (contact : Bool) :
    (s.restart cause x contact).pending = s.pending ∧ (s.restart cause x contact).draws = s.draws
    ∧ (s.restart cause x contact).resetLow = false ∧ (s.restart cause x contact).die.contact = contact
    ∧ (s.restart cause x contact).out = .pinLoad [] :: (if contact then [.descriptorRead 0x52] else []) := by
  cases contact <;> exact ⟨rfl, rfl, rfl, rfl, rfl⟩

/-- A good frame leaves everything of Line Control but the watch timer (R156). -/
@[simp] theorem Line.goodFrame_mode (l : Line) : l.goodFrame.mode = l.mode := by
  unfold Line.goodFrame; split <;> rfl

@[simp] theorem Line.goodFrame_startCause (l : Line) : l.goodFrame.startCause = l.startCause := by
  unfold Line.goodFrame; split <;> rfl

/-- With the watch timer STOPPED a good frame changes nothing of Line Control (R156). -/
theorem Line.goodFrame_stopped (l : Line) (h : l.watchTimer = .stopped) : l.goodFrame = l := by
  unfold Line.goodFrame; split
  · rename_i h2; simp [h] at h2
  · rfl

/-- A known request in an attending part: its owner answers in the state it is heard in, and the reply begins. -/
theorem request_dispatched (r : RequestKind) (tag : Byte) (body : List Byte) (s : State) (h : Attending s) :
    s.request (kindByte r) tag body =
      .next (answered (ownerAnswer r body (heard s)).st (kindByte r) tag (ownerAnswer r body (heard s)).status
        (ownerAnswer r body (heard s)).body) := by
  obtain ⟨hl, ha⟩ := h
  simp [State.request, State.live, hl, State.goodFrame, State.handFrame, State.setOut, State.setLine, ha,
    State.dispatch, answer, State.send, replyTo, State.setLink, answered, heard]

/-- A request while a reply is sent and the slot is empty waits there (R171). -/
theorem request_waits (kind tag : Byte) (body : List Byte) (s : State) (r : Reply) (n : Nat)
    (hl : s.resetLow = false) (ha : s.link.answering = .sending r n) (hs : s.link.slot = none) :
    s.request kind tag body =
      .next { heard s with link := { s.link with slot := some { kind := kind, tag := tag, body := body } } } := by
  simp [State.request, State.live, hl, State.goodFrame, State.handFrame, State.setOut, State.setLine, ha, hs,
    State.setLink, heard]

/-- A request while a reply is sent and the slot is full is dropped and counts OVERRUN (R171). -/
theorem request_dropped (kind tag : Byte) (body : List Byte) (s : State) (r : Reply) (n : Nat) (f : Frame)
    (hl : s.resetLow = false) (ha : s.link.answering = .sending r n) (hs : s.link.slot = some f) :
    s.request kind tag body = .next { heard s with link := s.link.countError .overrun } := by
  simp [State.request, State.live, hl, State.goodFrame, State.handFrame, State.setOut, State.setLine, ha, hs,
    State.setLink, heard]

/-- A command taken with RESET_N high. -/
theorem live_high (s : State) (f : State → State) (h : s.resetLow = false) : s.live f = .next (f (s.setOut [])) := by
  simp [State.live, h]

/-- A command taken while RESET_N is held low (R161). -/
theorem live_low (s : State) (f : State → State) (h : s.resetLow = true) : s.live f = .next (s.setOut []) := by
  simp [State.live, h]

end Sys2Proof.Machine
end

