-- ==== Sys2Proof/Laws/Ops.lean ====
section
/-! SUPPORT. What each shared operation can do, said once: the cases of its outcome. -/

namespace Sys2Proof.Machine

variable (s : State)

/-- A move of the line: nothing in the state it holds, else the state and its LINE_STATE event (R150). -/
theorem State.lineTo_cases (m : Mode) :
    (s.line.mode = m ∧ s.lineTo m = s)
    ∨ (s.line.mode ≠ m
        ∧ s.lineTo m =
          { s with
            line := { s.line with mode := m }
            notices := { queue := enter s.notices.queue (lineStateEvent s.line.mode m), attn := true } }) := by
  by_cases h : s.line.mode = m
  · exact .inl ⟨h, by simp [State.lineTo, h]⟩
  · exact .inr ⟨h, by simp [State.lineTo, h, State.push, State.setLine, State.setNotices]⟩

/-- The judgement of a drain: nothing, or the end of the drain (R153). -/
theorem State.judgeDrainEnd_cases :
    (¬ (s.line.mode = .draining ∧ s.track.count = 0 ∧ s.track.permit = none) ∧ s.judgeDrainEnd = s)
    ∨ (s.line.mode = .draining ∧ s.track.count = 0 ∧ s.track.permit = none
        ∧ s.judgeDrainEnd = (s.lineTo .ready).holdClear) := by
  by_cases h : s.line.mode = .draining ∧ s.track.count = 0 ∧ s.track.permit = none
  · exact .inr ⟨h.1, h.2.1, h.2.2, by simp [State.judgeDrainEnd, h]⟩
  · exact .inl ⟨h, by simp only [State.judgeDrainEnd, if_neg h]⟩

/-- A halt cause: a further HALT event while HALTED, else the halt (R154). -/
theorem State.halt_cases (c : HaltCause) :
    (s.line.mode = .halted ∧ s.halt c = s.push (haltEvent c .halted))
    ∨ (s.line.mode ≠ .halted
        ∧ s.halt c =
          State.sweep
            { s with
              line :=
                { s.line with mode := .halted, haltCause := some c, watchTimer := .stopped, boundary := false }
              cycle := { s.cycle.activate with hold := .heldInPlace }
              track := s.track.noPermit
              drill := s.drill.halted
              notices :=
                { queue := enter (enter s.notices.queue (haltEvent c s.line.mode)) (lineStateEvent s.line.mode .halted)
                  attn := true } }) := by
  by_cases h : s.line.mode = .halted
  · exact .inl ⟨h, by simp [State.halt, h]⟩
  · exact .inr ⟨h, by simp [State.halt, h, State.holdInPlace, State.setLine, State.setCycle, State.setTrack,
      State.setDrill, State.push, State.setNotices]⟩

/-- A spoil: nothing for a book not held or SPOILED already, else the spoil handed to every holder (R15, R17). -/
theorem State.spoil_cases (id : Nat) (r : Reason) (q v : Nat) :
    ((∀ b, s.book? id = some b → b.state = .spoiled) ∧ s.spoil id r q v = s)
    ∨ (∃ b, s.book? id = some b ∧ b.state ≠ .spoiled
        ∧ s.spoil id r q v =
          ((((((s.updateBook id (Book.spoil r)).push (spoiledEvent r id q v)).setTrack
            (s.track.condemn id)).drillSpoil id).traySpoil id).wireSpoil id).sweep) := by
  cases h : s.book? id with
  | none => exact .inl ⟨by simp, by simp [State.spoil, h]⟩
  | some b =>
    by_cases hb : b.state = .spoiled
    · exact .inl ⟨by simpa using hb, by simp [State.spoil, h, hb]⟩
    · exact .inr ⟨b, rfl, hb, by simp [State.spoil, h, hb]⟩

/-- The spoil at the Drill Controller: nothing, ABORTING, or the board finished as aborted (R128). -/
theorem State.drillSpoil_cases (id : Nat) :
    s.drillSpoil id = s
    ∨ (s.drill.board.any (fun b => b.book == id) = true
        ∧ (s.drillSpoil id = { s with drill := { s.drill with mode := .aborting } }
          ∨ s.drillSpoil id = { s with track := s.track.boardBack, drill := s.drill.toIdle })) := by
  simp only [State.drillSpoil]
  split
  · rename_i hb
    split
    · exact .inr ⟨hb, .inl rfl⟩
    · exact .inr ⟨hb, .inl rfl⟩
    · exact .inr ⟨hb, .inr rfl⟩
    · exact .inl rfl
  · exact .inl rfl

/-- The hole sent: the position at the index goes out and the hole runs, or there is none to send (R119, R120). -/
theorem State.sendHole_cases :
    (∃ b hu, s.drill.board = some b ∧ b.holes[s.drill.index]? = some hu
        ∧ s.sendHole =
          { s with
            drill := { s.drill with mode := .drilling, hole := .running 0 }
            out := s.out ++ [.drillPosition hu, .drillGo] })
    ∨ ((s.drill.board.bind fun b => b.holes[s.drill.index]?) = none
        ∧ s.sendHole = { s with drill := { s.drill with mode := .drilling } }) := by
  cases hb : s.drill.board.bind fun b => b.holes[s.drill.index]? with
  | none => exact .inr ⟨rfl, by simp [State.sendHole, hb, State.setDrill]⟩
  | some hu =>
    obtain ⟨b, h1, h2⟩ := Option.bind_eq_some_iff.mp hb
    exact .inl ⟨b, hu, h1, h2, by simp [State.sendHole, hb, State.setDrill, State.emit]⟩

/-- The start of a cut: the wire is cut for the book, or the feeder waits for wire (R139). -/
theorem State.startCut_cases (b : Book) (first : Bool) :
    (b.tBook.getD 0 ≤ s.wire.spool
        ∧ s.startCut b first =
          State.judgeWireLow
            { s with
              wire := { s.wire with feeder := .feeding b.id (b.tBook.getD 0) (.running 0)
                                    spool := s.wire.spool - b.tBook.getD 0 }
              out := s.out ++ [.wireCut (b.tBook.getD 0) (b.hanger == .hook)] } b.id s.wire.spool)
    ∨ (s.wire.spool < b.tBook.getD 0
        ∧ s.startCut b first =
          (if first then State.push { s with wire := { s.wire with feeder := .waitingWire b.id } }
              (plainEvent .wireOut b.id (b.tBook.getD 0))
            else { s with wire := { s.wire with feeder := .waitingWire b.id } })) := by
  by_cases h : b.tBook.getD 0 ≤ s.wire.spool
  · exact .inl ⟨h, by simp [State.startCut, h, State.setWire, State.emit]⟩
  · exact .inr ⟨by omega, by simp [State.startCut, h, State.setWire]⟩

/-- The Wire Feed's judgement: nothing, or the start for a tray book that is not SPOILED (R139). -/
theorem State.wireStart_cases :
    s.wireStart = s
    ∨ (∃ id b, s.wire.feeder = .idle ∧ s.tray.book? = some id ∧ s.book? id = some b ∧ b.state ≠ .spoiled
        ∧ s.wireStart = s.startCut b true) := by
  unfold State.wireStart
  split
  · rename_i b hf hb
    obtain ⟨id, h1, h2⟩ := Option.bind_eq_some_iff.mp hb
    split
    · exact .inl rfl
    · rename_i hs
      exact .inr ⟨id, b, hf, h1, h2, hs, rfl⟩
  · exact .inl rfl

/-- The Closer's judgement: nothing, a hook wait, or the close of the tray book (R144 to R146). -/
theorem State.judgeCloser_cases :
    s.judgeCloser = s
    ∨ (∃ id l b, s.tray = .complete id ∧ s.closer.mode = .idle ∧ s.wire.feeder = .cutReady id l
        ∧ s.line.mode ≠ .halted ∧ s.book? id = some b
        ∧ ((b.hanger = .hook ∧ s.wire.hooks = 0
              ∧ s.judgeCloser =
                State.push { s with closer := { s.closer with hookWait := true } } (plainEvent .hooksOut id 0))
          ∨ (¬ (b.hanger = .hook ∧ s.wire.hooks = 0) ∧ s.judgeCloser = s.startClose b))) := by
  unfold State.judgeCloser
  split
  · rename_i id served l ht hm hf
    split
    · rename_i hs
      obtain ⟨rfl, hl⟩ := hs
      split
      · exact .inl rfl
      · rename_i b hb
        split
        · rename_i hh
          split
          · exact .inl rfl
          · exact .inr ⟨_, l, b, ht, hm, hf, hl, hb, .inl ⟨hh.1, hh.2, rfl⟩⟩
        · rename_i hh
          exact .inr ⟨_, l, b, ht, hm, hf, hl, hb, .inr ⟨hh, rfl⟩⟩
    · exact .inl rfl
  · exact .inl rfl

/-- The queue after an event never passes 32 entries and is never empty (R158). -/
theorem enter_length (q : List Event) (e : Event) (h : q.length ≤ 32) :
    (enter q e).length ≤ 32 ∧ enter q e ≠ [] := by
  have bump : ∀ l : List Event, (bumpNewest l).length = l.length := by
    intro l
    induction l with
    | nil => rfl
    | cons a l ih => cases l with
      | nil => rfl
      | cons b l => simpa [bumpNewest] using ih
  unfold enter
  split
  · simp; omega
  · split
    · simp; omega
    · refine ⟨by rw [bump]; exact h, fun hn => ?_⟩
      have := bump q
      rw [hn] at this
      simp at this
      omega

/-- A book's record survives a sweep unless it is SPOILED and meets R19. -/
theorem State.mem_sweep (b : Book) : b ∈ s.sweep.books ↔ b ∈ s.books ∧ s.removable b = false := by
  simp [State.sweep, State.setBooks]

end Sys2Proof.Machine
end

