-- ==== Sys2Proof/Tests/Slice0.lean ====
section
/-! SUPPORT. The model's own tests: the well-formedness checks, the worked cases of the spec, and for each obligation with
hypotheses a state and operands that meet them. -/

namespace Sys2Proof.Tests

open Sys2Proof Sys2Proof.Machine Sys2Proof.Safety

set_option maxRecDepth 20000

/-! ### WellFormed: what each check refuses -/

theorem test_wf_body : (Instr.stop 0 (List.replicate 511 0)).wellFormed = false := by decide
theorem test_wf_unknown_known : (Instr.unknownKind 0x02 0 []).wellFormed = false := by decide
theorem test_wf_unknown_body : (Instr.unknownKind 0x07 0 (List.replicate 511 0)).wellFormed = false := by decide
theorem test_wf_gauge_left : (Instr.gaugeReport true (.valid 65536 0)).wellFormed = false := by decide
theorem test_wf_gauge_right : (Instr.gaugeReport true (.valid 0 65536)).wellFormed = false := by decide
theorem test_wf_mark_leaf : (Instr.markReport true (.read 256 0)).wellFormed = false := by decide
theorem test_wf_mark_tag : (Instr.markReport true (.read 0 256)).wellFormed = false := by decide
theorem test_wf_caliper : (Instr.caliperConversionComplete 4096).wellFormed = false := by decide
theorem test_wf_descriptor : (Instr.descriptorReadComplete (List.replicate 2049 0)).wellFormed = false := by decide
theorem test_wf_accepts : (Instr.unknownKind 0x07 0 [1]).wellFormed = true
    ∧ (Instr.caliperConversionComplete 4095).wellFormed = true := by decide

/-! ### Things the tests are made of -/

/-- The die of the worked planning case (02, "Worked planning case"). -/
def die : DieRecord :=
  { minor := 4, n := 64, p := 847, d0 := 2800, maxLift := 1200, pinLife := 2
    notch := some { reachMin := 20000, reachMax := 28000, maxCaliper := 400 }, retired := [] }

/-- Its pin map, with some pins withdrawn. -/
def pinMap (off : List Nat) : List Pin :=
  (List.range 64).map fun k => { state := if k ∈ off then .withdrawn else .active, worn := false, count := 0 }

/-- The format of the worked planning case. -/
def format : Format :=
  { wn := 42000, wt := 150, p := 847, mode := .auto, m := 600, g := 5, skewLimit := 40, markPolicy := .ifRead
    stepLimit := 1500, closeLimit := 2500 }

/-- The leaf of the worked planning case. -/
def leaf : Leaf := { role := .leaf, caliper := 170, notch := true }

/-- The board of the worked board case. -/
def back : Leaf := { role := .back, caliper := 1600, notch := false }

def book (id : Nat) (state : BookState) : Book :=
  { id := id, slot := 0, hanger := .hook, leaves := [leaf, leaf, back], state := state, arrived := 0, stacked := 0
    rejected := 0, dumped := 0, tBook := some 49, reason := none }

/-- The sheet of the worked planning case, bound to leaf 1 of a book. -/
def sheet (seq id : Nat) (route : Route) : Sheet :=
  { seq := seq, book := id, leaf := 1, role := .leaf, route := route, reason := none
    edges := some { l := 3012, r := 45008 }, skew := 12, caliper := some 172, mark := none, plan := none
    notchDone := false, holesDrilled := 0 }

def planned (seq id : Nat) (notch : Option Nat) : Sheet :=
  { sheet seq id .punch with
    plan := some { state := .ready
                   body := .punched { t := 3, slots := [0, 2], k0 := 1, shift := 35, pins := [1, 3], notch := notch } } }

def boardSheet (seq id : Nat) : Sheet :=
  { sheet seq id .drill with
    leaf := 3, role := .back
    plan := some { state := .ready, body := .board { t := 3, slots := [0, 2], holes := [3692, 4539] } } }

/-- A line with the die mounted and the format in slot 0 and slot 7, in a line state with its hold state. -/
def line (mode : Mode) (hold : Hold) : State :=
  { State.reset with
    line := { State.reset.line with mode := mode }
    cycle := { State.reset.cycle with hold := hold }
    die := { State.reset.die with contact := true, iface := .mounted die (pinMap []) }
    formats := [some format, none, none, none, none, none, none, some format] }

def ready : State := line .ready .heldClear
def running : State := line .running .released

def withBooks (s : State) (l : List Book) : State := { s with books := l }

/-- The pulse that comes next brings the count to `n`. -/
def before (n : Nat) (s : State) : State := { s with cycle := { s.cycle with count := n - 1 } }

def front (c : Instr) (s : State) : State := { s with pending := [c] }

def entry (x : Sheet) (away : Bool) : LaneEntry := { sheet := x, away := away }

/-- Six places taken: four in the LANE, one at PUNCH and one at NOTCH. -/
def full : State :=
  { withBooks running [{ book 412 .feeding with leaves := List.replicate 9 leaf, arrived := 6 }] with
    track := { running.track with
      lane := [entry (sheet 1 412 .punch) false, entry (sheet 2 412 .punch) false, entry (sheet 3 412 .punch) false,
        entry (sheet 4 412 .punch) false]
      notch := some (sheet 5 412 .punch), punch := some (sheet 6 412 .punch) } }

/-- Five places taken and a permit standing. -/
def permitted : State :=
  { full with track := { full.track with punch := none, permit := some { book := 412, leaf := 7 }, feedPermit := true } }

/-! ### The check code and the frame (10, R165 and "Worked frame") -/

theorem test_crc_zero : crc [0x00] = 0x40BF#16 := by decide
theorem test_crc_digits : crc [0x31, 0x32, 0x33, 0x34, 0x35, 0x36, 0x37, 0x38, 0x39] = 0x4B37#16 := by decide
theorem test_crc_read_status : crc [0x02, 0x00, 0x02, 0x11] = 0xF0C0#16 := by decide
theorem test_frame_read_status :
    Frame.bytes { kind := 0x02, tag := 0x11, body := [] } = [0xC3, 0x02, 0x00, 0x02, 0x11, 0xC0, 0xF0] := by decide

/-! ### The plan (02, "Worked planning case" and its variants) -/

def planOf (l r : Nat) (off : List Nat) (tBook : Option Nat) : Except Reason PlanBody :=
  planSheet
    { sheet := { sheet 5 412 .punch with edges := some { l := l, r := r } }, leaf := leaf
      book := { book 412 .feeding with tBook := tBook }, format := format, die := die, pins := pinMap off }

/-- T, k0, the shift, the number of pins and the notch centre. -/
def shown : Except Reason PlanBody → Option (Nat × Nat × Int × Nat × Option Nat)
  | .ok (.punched q) => some (q.t, q.k0, q.shift, q.pins.length, q.notch)
  | _ => none

def failed : Except Reason PlanBody → Option Reason
  | .error r => some r
  | .ok _ => none

theorem test_plan_case : shown (planOf 3012 45008 [] none) = some (49, 1, 35, 44, some 24010) := by decide
theorem test_plan_odd_centre : shown (planOf 3013 45008 [] none) = some (49, 1, 35, 44, some 24010) := by decide
theorem test_plan_below_zero : shown (planOf 2100 44097 [] (some 49)) = some (49, 0, -29, 44, some 23098) := by decide
theorem test_plan_pin_10 : failed (planOf 3012 45008 [10] none) = some .pinUnavailable := by decide
theorem test_plan_pin_23 : shown (planOf 3012 45008 [23] none) = some (49, 1, 35, 44, some 24010) := by decide
theorem test_plan_narrower : failed (planOf 3100 44955 [] (some 49)) = some .margin := by decide
theorem test_auto_narrower : autoSlotCount format 64 41855 = some 47 := by decide

def drilled : Except Reason PlanBody → Bool
  | .ok (.board _) => true
  | _ => false

theorem punched_of_shown {r : Except Reason PlanBody} (h : (shown r).isSome = true) : ∃ q, r = .ok (.punched q) := by
  unfold shown at h
  split at h
  · exact ⟨_, rfl⟩
  · cases h

theorem board_of_drilled {r : Except Reason PlanBody} (h : drilled r = true) : ∃ q, r = .ok (.board q) := by
  unfold drilled at h
  split at h
  · exact ⟨_, rfl⟩
  · cases h

theorem error_of_failed {r : Except Reason PlanBody} {x : Reason} (h : failed r = some x) : r = .error x := by
  unfold failed at h
  split at h
  · cases h; rfl
  · cases h

/-- The caliper bounds for 170 micrometres (R30). -/
theorem test_caliper_bounds : caliperFault 170 (some 300) = some .doubleFeed ∧ caliperFault 170 (some 289) = none
    ∧ caliperFault 170 (some 84) = some .thin ∧ caliperFault 170 (some 85) = none := by decide

/-- The marks of R31. -/
theorem test_marks : markFault .ifRead 6 412 (some ⟨6, 156⟩) = none
    ∧ markFault .required 6 412 (some ⟨7, 156⟩) = some .markMismatch
    ∧ markFault .ifRead 6 412 (some ⟨6, 155⟩) = some .markMismatch
    ∧ markFault .required 6 412 none = some .markMissing := by decide

/-! ### FIXED formats (02, "Example: checking a FIXED format") -/

def fixed (t g : Nat) (gaps : List Gap) : Format := { format with mode := .fixed t gaps, g := g }

theorem test_fixed_table :
    (fixed 24 4 []).consistent = true ∧ (fixed 24 4 [⟨0, 2⟩, ⟨22, 2⟩]).consistent = true
    ∧ (fixed 24 4 [⟨0, 2⟩, ⟨2, 3⟩]).consistent = true ∧ (fixed 24 4 [⟨0, 2⟩, ⟨1, 3⟩]).consistent = false
    ∧ (fixed 24 4 [⟨12, 2⟩]).consistent = false ∧ (fixed 24 4 [⟨23, 2⟩]).consistent = false
    ∧ (fixed 24 4 [⟨0, 10⟩, ⟨14, 10⟩]).consistent = false ∧ (fixed 24 5 []).consistent = false := by decide
theorem test_fixed_slots : (holeSlots (fixed 24 4 [⟨0, 2⟩, ⟨22, 2⟩]) 24).length = 16
    ∧ (holeSlots (fixed 24 4 [⟨0, 2⟩, ⟨2, 3⟩]) 24).length = 15 := by decide

/-! ### The descriptor (06, "Worked sequence: a die refused, corrected, run and changed") -/

def descriptor (n p d0 : Nat) : List Byte :=
  let region : List Byte :=
    [0x4F, 0x46, 0x44, 0x31, 1, 4, 1, 0] ++ le16 30 ++ [1, 1] ++ le16 3 ++ [18, 0, 0, 0]
      ++ [byte n, 0] ++ le16 p ++ le16 d0 ++ le16 1100 ++ le16 1500 ++ [0, 0]
  region ++ le16 (crc region).toNat

def refusal : Except DieCheck DieRecord → Option DieCheck
  | .error c => some c
  | .ok _ => none

theorem test_die_refused : refusal (judgeDescriptor (descriptor 48 1270 320)) = some .pinValue := by decide
theorem test_die_corrected : refusal (judgeDescriptor (descriptor 48 1270 300)) = none := by decide
theorem test_die_no_response : refusal (judgeDescriptor (List.replicate 9 0)) = some .noResponse := by decide

/-! ### The hypotheses of the obligations are met

One theorem for each obligation with hypotheses, named after it; where its clauses have hypotheses of their own, one part
for each, at a boundary where there is one. -/

/-- The state a command leads to. -/
def after (c : Instr) (s : State) : State :=
  match exec c s with
  | .next t => t
  | _ => s

/-- The state a step leads to. -/
def stepped (s : State) : State :=
  match step s with
  | .next t => t
  | _ => s

theorem test_met_StepTakesFront : State.reset.pending = [] := by decide

/-- Six places taken with a pulse next, and five with a permit standing and the lead edge next. -/
theorem test_met_TrackReservedKept :
    (TrackReserved (front (.encPulse true) full) ∧ full.track.reserved = 6
      ∧ step (front (.encPulse true) full) = .next (stepped (front (.encPulse true) full)))
    ∧ (TrackReserved (front .leadEdge permitted) ∧ permitted.track.reserved = 5
      ∧ step (front .leadEdge permitted) = .next (stepped (front .leadEdge permitted))) :=
  ⟨⟨by decide, by decide, rfl⟩, ⟨by decide, by decide, rfl⟩⟩

/-- Sixteen books. -/
def shelf : State := withBooks ready ((List.range 16).map fun i => book (i + 1) .queued)

theorem test_met_BookRecordsKept :
    BooksDistinct (front (.cancelBook 0 [16, 0]) shelf) ∧ SpoiledRemoved (front (.cancelBook 0 [16, 0]) shelf)
    ∧ step (front (.cancelBook 0 [16, 0]) shelf) = .next (stepped (front (.cancelBook 0 [16, 0]) shelf)) :=
  ⟨by decide, by decide, rfl⟩

theorem test_met_SheetsAccountedKept :
    SheetsAccounted (front .leadEdge permitted)
    ∧ step (front .leadEdge permitted) = .next (stepped (front .leadEdge permitted)) :=
  ⟨⟨by decide, by decide, by decide, nofun, nofun⟩, rfl⟩

/-- 32 entries in the Event Queue, and 255 link errors. -/
def noisy : State :=
  { ready with
    notices := { queue := List.replicate 32 (lineStateEvent .noDie .ready), attn := true }
    link := { State.reset.link with errors := 255, firstError := some .noise } }

theorem test_met_QueueAndErrorsKept :
    NoticesKept (front .framingError noisy) ∧ LinkErrorsKept (front .framingError noisy)
    ∧ step (front .framingError noisy) = .next (stepped (front .framingError noisy)) := ⟨by decide, by decide, rfl⟩

theorem test_met_ModesAgreeKept :
    LineAgrees (front .advanceDone running) ∧ DieAgrees (front .advanceDone running)
    ∧ ProfilesValid (front .advanceDone running)
    ∧ step (front .advanceDone running) = .next (stepped (front .advanceDone running)) :=
  ⟨by decide, by decide, by decide, rfl⟩

/-- A board at the station with its last hole running. -/
def drilling : State :=
  { withBooks running [{ book 412 .feeding with arrived := 3 }] with
    track := { running.track with lane := [entry (boardSheet 9 412) true] }
    drill :=
      { running.drill with
        mode := .drilling, hole := .running 0, index := 1
        board := some { seq := 9, book := 412, holes := [3692, 4539], stepLimit := 1500 } } }

theorem test_met_OneBoardAtStationKept :
    SheetsAccounted (front .holeDone drilling) ∧ LineAgrees (front .holeDone drilling)
    ∧ DieAgrees (front .holeDone drilling) ∧ StationAgrees (front .holeDone drilling)
    ∧ step (front .holeDone drilling) = .next (stepped (front .holeDone drilling)) :=
  ⟨⟨by decide, by decide, by decide, nofun, nofun⟩, by decide, by decide,
    ⟨by decide, by decide, by decide, nofun, (fun _ _ _ h => nomatch h), by decide⟩, rfl⟩

/-- A book on the tray with its cut under way and its next sheet in the LANE. -/
def building : State :=
  { withBooks running [{ book 412 .feeding with arrived := 2, stacked := 1, tBook := some 3 }] with
    track := { running.track with lane := [entry (planned 7 412 none) false] }
    tray := .building 412, wire := { running.wire with feeder := .feeding 412 3 (.running 0) } }

theorem test_met_OneSlotCountPerBookKept :
    SheetsAccounted (front .cutDone building) ∧ LineAgrees (front .cutDone building)
    ∧ DieAgrees (front .cutDone building) ∧ SlotCountsAgree (front .cutDone building)
    ∧ step (front .cutDone building) = .next (stepped (front .cutDone building)) := by
  refine ⟨⟨by decide, by decide, by decide, nofun, nofun⟩, by decide, by decide,
    ⟨?_, by decide, ?_, ?_, nofun, by decide, by decide⟩, rfl⟩
  · intro x hx _
    obtain rfl : x = planned 7 412 none := by simpa [front, building, withBooks, entry, running, line, State.reset] using hx
    exact ⟨_, _, rfl, List.mem_singleton.2 rfl, rfl, rfl⟩
  · rintro _ ⟨⟩
    exact ⟨_, List.mem_singleton.2 rfl, rfl, by decide, rfl⟩
  · rintro _ ⟨⟩
    refine ⟨_, List.mem_singleton.2 rfl, rfl, by decide, rfl, ?_, nofun⟩
    rintro _ _ ⟨⟩
    rfl

/-- A record at NOTCH and an ADVANCE next. -/
theorem test_met_LaneMovesInOrder :
    exec (.encPulse true) (before 1400 full) = .next (after (.encPulse true) (before 1400 full))
    ∧ (after (.encPulse true) (before 1400 full)).track.lane.map (·.sheet.seq) = [1, 2, 3, 4, 5] := ⟨rfl, by decide⟩

/-- A READY plan at PUNCH and a CLOSE next. -/
def closing : State :=
  before 600 { withBooks running [book 412 .feeding] with
    track := { running.track with punch := some (planned 7 412 (some 24010)) } }

theorem test_met_PunchedPinsActive :
    exec (.encPulse true) closing = .next (after (.encPulse true) closing)
    ∧ .punchFire ∈ (after (.encPulse true) closing).out := ⟨rfl, by decide⟩

/-- A LANE head, an EMPTY tray and an OPEN next. -/
def opening : State :=
  before 1000 { withBooks running [{ book 412 .feeding with arrived := 1 }] with
    track := { running.track with lane := [entry (sheet 7 412 .punch) false] }
    wire := { running.wire with spool := 100 } }

theorem test_met_WireCutIsBookCount :
    exec (.encPulse true) opening = .next (after (.encPulse true) opening)
    ∧ .wireCut 49 true ∈ (after (.encPulse true) opening).out := ⟨rfl, by decide⟩

theorem test_met_EveryRequestAnswered :
    Attending ready ∧ ((0x01 : Byte), Instr.identify 5 []) ∈ requests 5 []
    ∧ ((0x21 : Byte), Instr.readLinkErrors 5 []) ∈ requests 5 [] := by decide

/-- The one hypothesis of QueueBookJudged, CancelBookJudged, NamedReadsAnswered, SetProfileJudged, PinServiceSet,
BodylessReadsAnswered and EventsAndErrorsRead. -/
theorem test_met_Attending : Attending State.reset ∧ Attending ready ∧ Attending running := by decide

theorem test_met_QueueBookTakesRecord :
    let least : List Leaf := [{ leaf with caliper := 40 }, { back with caliper := 3000 }]
    let most : List Leaf := List.replicate 39 leaf ++ [back]
    let fifteen := withBooks ready ((List.range 15).map fun i => book (i + 2) .queued)
    (Attending fifteen ∧ fifteen.books.length < 16 ∧ (∀ b ∈ fifteen.books, b.id ≠ 1)
      ∧ fifteen.formats.getD 7 none = some format ∧ 2 ≤ least.length ∧ (∀ l ∈ least, 40 ≤ l.caliper ∧ l.caliper ≤ 3000)
      ∧ 0 < format.g ∧ (∃ l ∈ least, l.role = .back) ∧ (∀ d ∈ fifteen.die?.toList, d.p = format.p))
    ∧ (most.length ≤ 40 ∧ (∀ l ∈ most, 40 ≤ l.caliper ∧ l.caliper ≤ 3000) ∧ (∃ l ∈ most, l.role = .back)
      ∧ ∀ b ∈ fifteen.books, b.id ≠ 65535) := by decide

/-- The same leaves through QUEUE_BOOK, with ids 1 and 65 535. -/
theorem test_queueBook :
    ((after (.queueBook 0 ([1, 0, 7, 1, 2] ++ (([leaf, back] : List Leaf).map Leaf.bytes).flatten)) ready).books.map
      fun b => (b.id, b.slot, b.hanger, b.leaves)) = [(1, 7, .hook, [leaf, back])]
    ∧ ((after (.queueBook 0 ([255, 255, 0, 2, 2] ++ (([leaf, back] : List Leaf).map Leaf.bytes).flatten)) ready).books.map
      fun b => (b.id, b.slot, b.hanger, b.leaves)) = [(65535, 0, .drilled, [leaf, back])] := by decide

/-- The board of a book spoiled with its hole running, with the suspension pending and suspended; then its tray; then its
cut ready, with the tray empty, its own, and another book's. -/
theorem test_met_SpoilTaken :
    let d (m : DrillMode) : State := { drilling with drill := { drilling.drill with mode := m } }
    let w (t : Tray) : State := { withBooks running [book 412 .feeding, book 413 .feeding] with
      tray := t, wire := { running.wire with feeder := .cutReady 412 49, spool := 49 } }
    (∀ s ∈ [closing, drilling, d (.suspendPending .halt), d (.suspended .request), w .empty, w (.building 412),
        w (.building 413)], SpoiledRemoved s ∧ (s.book? 412).map (·.state) = some .feeding)
    ∧ ((drilling.drill.board.map (·.book)) = some 412 ∧ drilling.drill.mode = .drilling
        ∧ drilling.drill.hole = .running 0 ∧ closing.drill.board = none)
    ∧ (w (.building 412)).tray.book? = some 412 ∧ (w (.building 413)).tray.book? = some 413
    ∧ ((w .empty).book? 413).map (·.state) = some .feeding
    ∧ ((withBooks running [book 412 .spoiled]).book? 412).map (·.state) = some .spoiled
    ∧ running.book? 412 = none := by decide

/-- R128 and R137: a spoil aborts the board's running hole, and takes the book's stack off the tray with FLAP. -/
theorem test_spoil_drill_and_tray :
    (drilling.spoil 412 .cancelled 0 0).drill.mode = .aborting
    ∧ (building.spoil 412 .cancelled 0 0).tray = .empty ∧ .flap false ∈ (building.spoil 412 .cancelled 0 0).out
    ∧ ((building.spoil 412 .cancelled 0 0).books.map fun b => (b.stacked, b.dumped)) = [(0, 1)] := by decide

/-- SET_FORMAT's clauses: a wrong length, slot 8, a slot in use, a field out of its range, and a legal record. -/
theorem test_met_SetFormatJudged :
    let low := { format with wn := 7999 }
    let used := withBooks ready [book 412 .queued]
    Attending ready ∧ Attending used ∧ ([] : List Byte).length ≠ 25
    ∧ ((8 :: format.bytes).length = 25 ∧ 7 < u8 (8 :: format.bytes) 0)
    ∧ (u8 (0 :: format.bytes) 0 ≤ 7 ∧ ∃ b ∈ used.books, b.slot = 0)
    ∧ ((∀ b ∈ ready.books, b.slot ≠ 7) ∧ (7 :: low.bytes).length = 25)
    ∧ (u8 (7 :: format.bytes) 7 ≤ 1 ∧ u8 (7 :: format.bytes) 20 ≤ 2) := by decide

/-- A record just outside a range, and legal records at both ends and in FIXED mode. -/
theorem test_met_SetFormatStoresRecord :
    ¬ FormatLegal { format with wn := 7999 }
    ∧ FormatLegal format
    ∧ FormatLegal { wn := 50000, wt := 1000, p := 2000, mode := .auto, m := 3000, g := 16, skewLimit := 255
                    markPolicy := .ignored, stepLimit := 5000, closeLimit := 10000 }
    ∧ FormatLegal { wn := 8000, wt := 0, p := 500, mode := .fixed 2 [], m := 200, g := 0, skewLimit := 0
                    markPolicy := .required, stepLimit := 100, closeLimit := 500 } := by
  refine ⟨?_, ?_, ?_, ?_⟩ <;> simp [FormatLegal, FixedLegal, format]

theorem test_setFormat :
    (after (.setFormat 0 (7 :: (fixed 24 4 [⟨0, 2⟩, ⟨22, 2⟩]).bytes)) State.reset).formats.getD 7 none
      = some (fixed 24 4 [⟨0, 2⟩, ⟨22, 2⟩]) := by decide

/-- The planning case, past its first checks, for each side: no row, a row too wide, a board, and a punched sheet. -/
def planCase (l r : Nat) (x : Leaf) (tBook : Option Nat) : PlanInput :=
  { sheet := { sheet 5 412 .punch with edges := some { l := l, r := r } }, leaf := x
    book := { book 412 .feeding with tBook := tBook }, format := format, die := die, pins := pinMap [] }

def early : List Reason := [.noGauge, .width, .skew, .doubleFeed, .thin, .markMissing, .markMismatch, .pitch]

theorem test_met_PlacementReasons :
    let i := planCase 3012 45008 leaf none
    (500 ≤ i.die.p ∧ i.sheet.edges = some { l := 3012, r := 45008 } ∧ ∀ r ∈ early, failed (planSheet i) ≠ some r)
    ∧ (i.book.tBook = none ∧ format.mode = .auto ∧ autoSlotCount format 64 41996 = some 49
      ∧ ¬ ((41996 : Int) - ((49 : Int) - 1) * 847 < 2 * 600) ∧ leaf.caliper ≤ die.maxLift)
    ∧ (autoSlotCount format 4 41996 = none ∧ (∀ r ∈ early, failed (planSheet (planCase 3100 44955 leaf (some 49))) ≠ some r)
      ∧ (41855 : Int) - ((49 : Int) - 1) * 847 < 2 * 600)
    ∧ die.maxLift < back.caliper
    ∧ (leaf.notch = true ∧ ∃ x ∈ die.notch.toList, x.reachMin ≤ 24010 ∧ 24010 ≤ x.reachMax ∧ 172 ≤ x.maxCaliper) := by
  decide

theorem test_met_AutoSlotCountLargest :
    0 < format.p ∧ 2 * (format.m : Int) < 41996 ∧ 2 * (format.m : Int) < 1201 := by decide

theorem test_met_HoleSlotsCounted :
    (FixedLegal 0 2 [] ∧ (fixed 2 0 []).mode = .fixed 2 []) ∧ (format.mode = .auto ∧ format.g ≤ 49 ∧ format.g ≤ 5) := by
  refine ⟨⟨?_, rfl⟩, rfl, by decide, by decide⟩
  simp [FixedLegal]

theorem test_met_CandidatesExamined : (500 : Nat) ≤ die.p ∧ candidates 7364 2800 847 = [1] := by decide

theorem test_met_PunchedPlanSound :
    500 ≤ (planCase 3012 45008 leaf none).die.p
    ∧ ∃ q, planSheet (planCase 3012 45008 leaf none) = .ok (.punched q) :=
  ⟨by decide, punched_of_shown (by decide)⟩

/-- A board of the same book, its caliper not measured. -/
def boardCase : PlanInput :=
  { planCase 3012 45008 back (some 49) with sheet := { sheet 6 412 .drill with leaf := 3, caliper := none } }

theorem test_met_BoardPlanSound : ∃ q, planSheet boardCase = .ok (.board q) := board_of_drilled (by decide)

/-- What the plan of a sheet is made from (R26), for the first and the last leaf of its book. -/
theorem test_met_planInput :
    let b : Book := book 412 .feeding
    let s := withBooks running [b]
    s.books.find? (fun b => b.id == 412) = some b ∧ s.die.iface = .mounted die (pinMap [])
    ∧ s.formats.getD b.slot none = some format ∧ (sheet 5 412 .punch).leaf = 0 + 1 ∧ (boardSheet 6 412).leaf = 2 + 1
    ∧ b.leaves[0]? = some leaf ∧ b.leaves[2]? = some back := by decide

/-- The plan point of a book in the queue: a punched sheet, a board, a failure, and a sheet rejected before. -/
theorem test_met_PlanPointWrites :
    let s := withBooks running [{ book 412 .feeding with tBook := none }]
    (sheet 5 412 .reject).route = .reject
    ∧ (∃ i q, s.planInput (sheet 5 412 .punch) = some i ∧ planSheet i = .ok (.punched q))
    ∧ (∃ i q, s.planInput { sheet 6 412 .drill with leaf := 3, caliper := none } = some i
        ∧ planSheet i = .ok (.board q))
    ∧ (∃ i, s.planInput { sheet 5 412 .punch with edges := none } = some i ∧ planSheet i = .error .noGauge) :=
  ⟨rfl,
   have ⟨q, h⟩ := punched_of_shown (r := planSheet (planCase 3012 45008 leaf none)) (by decide)
   ⟨_, q, rfl, h⟩,
   have ⟨q, h⟩ := board_of_drilled (r := planSheet { boardCase with book := { book 412 .feeding with tBook := none } })
     (by decide)
   ⟨_, q, rfl, h⟩,
   _, rfl, error_of_failed (by decide)⟩

/-- The permit of the ninth leaf, the last one, and a stray sheet. -/
theorem test_met_LeadEdgeTaken :
    let b : Book := { book 412 .feeding with leaves := List.replicate 9 leaf, arrived := 8 }
    let s : State := { withBooks permitted [b] with
      track := { permitted.track with permit := some { book := 412, leaf := 9 } } }
    (s.resetLow = false ∧ BooksDistinct s ∧ SpoiledRemoved s ∧ s.track.reg = none
      ∧ s.track.permit = some { book := 412, leaf := 9 } ∧ s.books.find? (fun x => x.id == 412) = some b
      ∧ b.leaves[b.arrived]? = some leaf)
    ∧ (running.resetLow = false ∧ running.track.permit = none) := by decide

theorem test_leadEdge_last :
    ((after .leadEdge { withBooks permitted [{ book 412 .feeding with leaves := List.replicate 7 leaf, arrived := 6 }] with
      arrival := { nextSeq := 65535, window := .closed, conversion := none } }).books.map fun b => (b.state, b.arrived))
      = [(.fed, 7)] := by decide

theorem test_met_MeasurementsTaken :
    running.resetLow = false ∧ running.arrival.conversion = none
    ∧ ({ running with arrival := { running.arrival with conversion := some 7 } } : State).arrival.conversion = some 7 := by
  decide

/-- The ADVANCE with each route at NOTCH, with NOTCH empty, with a notch centre at PUNCH and with none. -/
theorem test_met_AdvanceMovesOnePlace :
    (∀ r ∈ [Route.punch, .drill, .reject],
      let s := before 1400 { full with track := { full.track with notch := some (sheet 5 412 r) } }
      s.resetLow = false ∧ s.cycle.hold = .released ∧ s.cycle.active.valid = true
        ∧ s.cycle.count + 1 = s.cycle.active.pa)
    ∧ (before 1400 running).track.notch = none ∧ (before 1400 running).cycle.count + 1 = 1400
    ∧ permitted.track.permit ≠ none ∧ running.track.permit = none
    ∧ closing.track.punch = some (planned 7 412 (some 24010)) ∧ (planned 7 412 none).route = .punch
    ∧ running.track.reg = none ∧ ({ running.track with reg := some (sheet 8 412 .punch) } : Track).reg ≠ none := by decide

/-- R95: the ADVANCE sends and holds the notch centre of the sheet it moves to NOTCH. -/
theorem test_advance_notch_centre :
    (after (.encPulse true) (before 1400 closing)).setpoints.notch = some 24010
    ∧ .notchCentre 24010 ∈ (after (.encPulse true) (before 1400 closing)).out := by decide

/-- With six places taken the ADVANCE issues no permit; with a rejected record at NOTCH it does. -/
theorem test_met_PermitIssued :
    let s := before 1400 full
    let u := before 1400 { full with track := { full.track with notch := some (sheet 5 412 .reject) } }
    (s.resetLow = false ∧ s.cycle.hold = .released ∧ s.cycle.active.valid = true
      ∧ s.cycle.count + 1 = s.cycle.active.pa ∧ exec (.encPulse true) s = .next (after (.encPulse true) s))
    ∧ (after (.encPulse true) s).track.permit = none
    ∧ (after (.encPulse true) u).track.permit = some { book := 412, leaf := 7 } :=
  ⟨⟨rfl, rfl, rfl, rfl, rfl⟩, by decide, by decide⟩

theorem test_met_DiverterByRoute :
    running.track.notch = none
    ∧ (sheet 5 412 .punch).route = .punch ∧ (sheet 5 412 .reject).route = .reject
    ∧ (boardSheet 6 412).route = .drill
    ∧ (boardSheet 6 412).plan = some { state := .ready, body := .board { t := 3, slots := [0, 2], holes := [3692, 4539] } }
    := by decide

/-- The levels of DIVERT_A and DIVERT_B after a departure of each route, by the table of R67. -/
theorem test_divert_levels :
    ([Route.reject, .punch, .drill].map fun r =>
      let s := ({ running with track := { running.track with
        notch := some { boardSheet 6 412 with route := r } } } : State).divert
      (s.divertA, s.divertB)) = [(false, false), (true, false), (false, true)] := by decide

/-- `Obligations.EncPulseCounts`, and with it the notices that need no board, die or book. -/
theorem test_met_EncPulseCounts : (before 2000 running).resetLow = false ∧ (before 1 running).cycle.count = 0 := by decide

/-- The stroke with PUNCH empty, a board there, no plan there, and a READY plan whose pins are ACTIVE or not. -/
theorem test_met_StrokeMade :
    let q : PunchPlan := { t := 3, slots := [0, 2], k0 := 1, shift := 35, pins := [1, 3], notch := some 24010 }
    running.track.punch = none ∧ (boardSheet 6 412).route ≠ .punch ∧ (sheet 6 412 .punch).plan = none
    ∧ (planned 7 412 (some 24010)).route = .punch
    ∧ (planned 7 412 (some 24010)).plan = some { state := .ready, body := .punched q }
    ∧ (∀ k ∈ q.pins, ∃ y ∈ (pinMap [])[k]?.toList, y.state = .active)
    ∧ (∃ k ∈ q.pins, ∀ y ∈ (pinMap [3])[k]?.toList, y.state ≠ .active) := by decide

/-- A READY plan at PUNCH and a notch centre at NOTCH, of one book or of two: the CLOSE with the carriage ready fires both;
a carriage that is late spoils the book at PUNCH, and the notch of another book is fired all the same (R94, R95). With the
notch's book SPOILED it is never due. -/
theorem test_met_NotchFired :
    let s (id : Nat) (x : BookState) : State := { withBooks running [book 412 .feeding, book 413 x] with
      track := { running.track with
        punch := some (planned 8 412 none), notch := some (planned 7 id (some 24010)) } }
    ((s 413 .feeding).track.notch = some (planned 7 413 (some 24010))
      ∧ (s 413 .feeding).books.find? (fun b => b.id == 413) = some (book 413 .feeding))
    ∧ (.punchFire ∈ ((s 413 .feeding).closeEvent true).out ∧ .notchFire ∈ ((s 413 .feeding).closeEvent true).out)
    ∧ (.punchFire ∉ ((s 413 .feeding).closeEvent false).out ∧ .notchFire ∈ ((s 413 .feeding).closeEvent false).out)
    ∧ .notchFire ∉ ((s 413 .spoiled).closeEvent true).out
    ∧ ((s 412 .feeding).books.find? (fun b => b.id == 412)).map (·.state) = some .feeding
    ∧ (((s 412 .feeding).closePunch false).books.find? (fun b => b.id == 412)).map (·.state) = some .spoiled := by decide

theorem test_met_OpenCountsStrokes : ∃ d m, closing.die.iface = .mounted d m := ⟨_, _, rfl⟩

/-- Pin 1 comes to the threshold of 2 000 strokes and is worn, pin 3 does not. -/
theorem test_open_worn :
    let pins := (pinMap []).modify 1 fun x => { x with count := 1999 }
    let s : State := { running with
      die := { running.die with iface := .mounted die pins }, cycle := { running.cycle with stroke := [1, 3] } }
    s.countStroke.notices.queue.map (fun e => (e.kind, e.value)) = [(.pinWorn, 1)]
    ∧ ((s.countStroke.pins?.getD [])[1]?.map fun x => (x.count, x.worn)) = some (2000, true)
    ∧ ((s.countStroke.pins?.getD [])[3]?.map fun x => (x.count, x.worn)) = some (1, false) := by decide

theorem test_met_TransportHandshake :
    running.resetLow = false ∧ running.cycle.outstanding = false ∧ running.line.boundary = false
    ∧ ({ running with cycle := { running.cycle with outstanding := true } } : State).cycle.outstanding = true
    ∧ ({ running with line := { running.line with boundary := true } } : State).line.boundary = true := by decide

theorem test_met_ContactTaken : State.reset.resetLow = false ∧ running.resetLow = false := by decide

theorem test_met_DescriptorJudged :
    let s : State := { State.reset with die := { State.reset.die with contact := true, iface := .mounting } }
    (s.resetLow = false ∧ s.die.iface = .mounting ∧ State.reset.die.iface ≠ .mounting)
    ∧ (∃ c, judgeDescriptor (descriptor 48 1270 320) = .error c)
    ∧ (∃ d, judgeDescriptor (descriptor 48 1270 300) = .ok d) := ⟨by decide, ⟨_, rfl⟩, ⟨_, rfl⟩⟩

/-- Both ends of each range of the layout clause of `Obligations.DescriptorRead`. -/
theorem test_met_DescriptorRead :
    ((0 : Nat) ≤ 255 ∧ 16 ≤ 16 ∧ 500 ≤ 500 ∧ 0 + (16 - 1) * 500 ≤ 60000 ∧ 50 ≤ 50 ∧ 1 ≤ 1 ∧ 0 ≤ 0 ∧ 1 ≤ 1)
    ∧ ((255 : Nat) ≤ 255 ∧ 64 ≤ 64 ∧ 847 ≤ 2000 ∧ 6639 + (64 - 1) * 847 ≤ 60000 ∧ 1500 ≤ 1500 ∧ 65535 ≤ 65535
      ∧ 60000 ≤ 60000 ∧ 4095 ≤ 4095) := by decide

/-- A descriptor of the given headers (id, revision, words, pointer) and table bytes, with its check code. -/
def region (heads : List (Nat × Nat × Nat × Nat)) (tables : List Byte) : List Byte :=
  let r : List Byte := [0x4F, 0x46, 0x44, 0x31, 1, 0, byte heads.length]
    ++ [0] ++ le16 (10 + 8 * heads.length + tables.length)
    ++ (heads.map fun h => [byte h.1, byte h.2.1] ++ le16 h.2.2.1 ++ le16 h.2.2.2 ++ [0, 0]).flatten ++ tables
  r ++ le16 (crc r).toNat

/-- A pin table of 16 pins. -/
def pins16 : List Byte := [16, 0] ++ le16 847 ++ le16 2800 ++ le16 1200 ++ le16 2 ++ [0, 0]

/-- R103 to R107: a die without a notch tool; an unknown id skipped, though its pointer lies outside; a retired table read
in increasing order, and one with a pin past the die; no pin table; a table with too few words. -/
theorem test_descriptor_tables :
    (match judgeDescriptor (region [(1, 1, 3, 18)] pins16) with | .ok r => r.notch.isNone | _ => false) = true
    ∧ refusal (judgeDescriptor (region [(9, 0, 0, 0), (1, 1, 3, 26)] pins16)) = none
    ∧ (match judgeDescriptor (region [(1, 1, 3, 26), (3, 1, 5, 38)]
          (pins16 ++ [2, 7, 3] ++ List.replicate 17 0)) with | .ok r => r.retired | _ => []) = [3, 7]
    ∧ refusal (judgeDescriptor (region [(1, 1, 3, 26), (3, 1, 5, 38)] (pins16 ++ [1, 16] ++ List.replicate 18 0)))
      = some .retiredValue
    ∧ refusal (judgeDescriptor (region [(9, 0, 0, 0)] [])) = some .noPinTable
    ∧ refusal (judgeDescriptor (region [(1, 1, 2, 18)] pins16)) = some .tableForm := by decide

/-- PRESET_PIN_COUNTS' clauses: 0 and 17 counts, a line not READY, a pin past the die, and the die's last 16 pins. -/
theorem test_met_PinCountsPreset :
    let body (k c : Nat) : List Byte := [byte k, byte c] ++ List.replicate (4 * c) 0
    Attending ready ∧ Attending running ∧ ready.line.mode = .ready ∧ running.line.mode ≠ .ready
    ∧ u8 (body 0 0) 1 < 1 ∧ 16 < u8 (body 0 17) 1
    ∧ ((body 49 16).length = 2 + 4 * u8 (body 49 16) 1 ∧ die.n < u8 (body 49 16) 0 + u8 (body 49 16) 1)
    ∧ ((body 48 16).length = 2 + 4 * u8 (body 48 16) 1 ∧ u8 (body 48 16) 0 + u8 (body 48 16) 1 ≤ die.n)
    ∧ ∃ m, ready.die.iface = .mounted die m := by
  refine ⟨by decide, by decide, by decide, by decide, by decide, by decide, by decide, by decide, _, rfl⟩

/-- DRILL_RESUME with a hole left and with none. -/
theorem test_met_DrillRequestsJudged :
    let s (n : Nat) : State := { drilling with
      drill := { drilling.drill with mode := .suspended .request, hole := .none, index := n } }
    Attending (s 1) ∧ (s 1).line.mode ≠ .halted ∧ (s 1).drill.mode = .suspended .request
    ∧ (∃ b ∈ (s 1).drill.board.toList, b.holes[(s 1).drill.index]? = some 4539)
    ∧ (∃ b ∈ (s 2).drill.board.toList, b.holes.length ≤ (s 2).drill.index)
    ∧ drilling.drill.mode ≠ .suspended .request := by decide

/-- HOLE_DONE with a hole left, with the last hole, aborting, suspending, and with no hole RUNNING. -/
theorem test_met_HoleEndsTaken :
    drilling.resetLow = false ∧ drilling.drill.hole = .running 0 ∧ drilling.drill.mode = .drilling
    ∧ (∃ b ∈ drilling.drill.board.toList, b.holes.length ≤ drilling.drill.index + 1 ∧ b.holes[0 + 1]? = some 4539)
    ∧ (∀ ms : Nat, running.drill.hole ≠ .running ms)
    ∧ ({ drilling.drill with mode := .aborting } : Drill).mode = .aborting
    ∧ ({ drilling.drill with mode := .suspendPending .halt } : Drill).mode = .suspendPending .halt :=
  ⟨rfl, rfl, rfl, by decide, fun _ h => by simp [running, line, State.reset] at h, rfl, rfl⟩

/-- A cut running for a held book and for a SPOILED one, no cut running; a spool of exactly the loops and one short; a tray
book with the feeder IDLE, held, SPOILED and not held. -/
theorem test_met_WireFeedTaken :
    let s (x : BookState) : State := { withBooks running [book 412 x] with
      wire := { running.wire with feeder := .feeding 412 49 (.running 0), spool := 49 } }
    let u (x : BookState) : State := { s x with tray := .building 412, wire := { running.wire with spool := 49 } }
    (s .feeding).resetLow = false ∧ (s .feeding).wire.feeder = .feeding 412 49 (.running 0)
    ∧ (s .feeding).books.find? (fun b => b.id == 412) = some (book 412 .feeding)
    ∧ (s .spoiled).books.find? (fun b => b.id == 412) = some (book 412 .spoiled)
    ∧ running.wire.feeder = .idle ∧ (book 412 .feeding).tBook = some 49 ∧ 49 ≤ (s .feeding).wire.spool
    ∧ running.wire.spool < 49
    ∧ (u .feeding).wire.feeder = .idle ∧ (u .feeding).tray.book? = some 412
    ∧ (u .feeding).wireStart.wire.feeder = .feeding 412 49 (.running 0) ∧ (u .spoiled).wireStart = u .spoiled
    ∧ (withBooks (u .feeding) []).books.find? (fun b => b.id == 412) = none := by decide

theorem test_met_WireSupplySet :
    Attending running ∧ ([] : List Byte).length ≠ 10 ∧ (le32 0 ++ le32 4294967295 ++ le16 65535).length = 10 := by decide

/-- Each clause of `Obligations.HeadOffered`; with the feeder serving another book no cut starts (R139). -/
theorem test_met_HeadOffered :
    let busy : State := { opening with wire := { opening.wire with feeder := .feeding 411 49 (.running 0) } }
    running.track.lane = [] ∧ drilling.track.lane = entry (boardSheet 9 412) true :: []
    ∧ opening.track.lane = entry (sheet 7 412 .punch) false :: [] ∧ opening.tray = .empty
    ∧ opening.wire.feeder = .idle
    ∧ busy.tray = .empty ∧ busy.handOver.tray = .building 412 ∧ busy.handOver.wire = busy.wire
    ∧ opening.books.find? (fun b => b.id == 412) = some { book 412 .feeding with arrived := 1 }
    ∧ ({ book 412 .feeding with stacked := 2 } : Book).stacked + 1 = (book 412 .feeding).leaves.length
    ∧ ({ book 412 .feeding with stacked := 1 } : Book).stacked + 1 ≠ (book 412 .feeding).leaves.length
    ∧ (Tray.building 413 ≠ .empty ∧ Tray.building 413 ≠ .building 412) := by decide

/-- A complete tray with its wire ready, hooks at 0 and at 1; a close running. -/
theorem test_met_CloserTaken :
    let s : State := { withBooks running [book 412 .stacked] with
      tray := .complete 412, wire := { running.wire with feeder := .cutReady 412 49, hooks := 1 } }
    let c : State := { withBooks running [book 412 .closing] with
      closer := { mode := .closing 412 2500 (.running 0), hookWait := false } }
    s.tray = .complete 412 ∧ s.closer.mode = .idle ∧ s.wire.feeder = .cutReady 412 49 ∧ s.line.mode ≠ .halted
    ∧ s.books.find? (fun b => b.id == 412) = some (book 412 .stacked) ∧ (book 412 .stacked).hanger = .hook
    ∧ 0 < s.wire.hooks ∧ running.wire.hooks = 0 ∧ running.tray = .empty ∧ (line .halted .heldInPlace).line.mode = .halted
    ∧ c.resetLow = false ∧ c.closer.mode = .closing 412 2500 (.running 0)
    ∧ c.books.find? (fun b => b.id == 412) = some (book 412 .closing) ∧ (book 412 .closing).tBook = some 49 := by decide

/-- A drain at its end, and one with a sheet in the track. -/
theorem test_met_RunAndDrainJudged :
    let s := line .draining .released
    s.line.mode = .draining ∧ s.track.count = 0 ∧ s.track.permit = none ∧ s.judgeDrainEnd.line.mode = .ready
    ∧ full.track.count = 6 ∧ Attending s
    ∧ running.line.mode ≠ .draining ∧ full.enterDraining.line.mode = .draining
    ∧ running.enterDraining.line.mode = .ready := by decide

theorem test_met_HaltTaken : (line .halted .heldInPlace).line.mode = .halted ∧ running.line.mode ≠ .halted := by decide

/-- STOP in HALTED with a close that ran out, and with one still running. -/
theorem test_met_StopPurges :
    let s (l : Limit) : State := { withBooks (line .halted .heldInPlace) [book 412 .closing, book 413 .queued] with
      closer := { mode := .closing 412 2500 l, hookWait := false } }
    (Attending (s .timedOut) ∧ BooksDistinct (s .timedOut)
      ∧ ∀ b ∈ (s .timedOut).books, (s .timedOut).closer.mode.book? = some b.id → b.state = .closing)
    ∧ (Attending (s (.running 0)) ∧ BooksDistinct (s (.running 0))
      ∧ ∀ b ∈ (s (.running 0)).books, (s (.running 0)).closer.mode.book? = some b.id → b.state = .closing) := by decide

/-- R137, R148: STOP gives FLAP for a purged tray book, and none with the tray EMPTY. -/
theorem test_stop_outputs :
    (after (.stop 0 []) { building with closer := { building.closer with hookWait := true } }).out
      = [.pinLoad [], .flap false]
    ∧ (after (.stop 0 []) { building with closer := { building.closer with hookWait := true } }).closer.hookWait = false
    ∧ (after (.stop 0 []) { building with tray := .empty }).out = [.pinLoad []] := by decide

theorem test_met_WatchTaken :
    let s (m : WatchMode) : State := { running with
      line := { running.line with watchPeriod := 100, watchMode := m, watchTimer := .running 100 } }
    (s .atOnce).resetLow = false ∧ (s .atOnce).link.answering = .idle ∧ running.line.watchTimer = .stopped
    ∧ (s .atOnce).line.watchTimer = .running 100 ∧ (s .atOnce).line.watchMode = .atOnce
    ∧ (s .atBoundary).line.watchMode = .atBoundary := by decide

theorem test_met_EventsAndErrorsRead :
    Attending noisy ∧ noisy.notices.queue.length = 32 ∧ (noisy.notices.queue.take 31).length = 31
    ∧ (noisy.notices.queue.take 30).length ≤ 30
    ∧ noisy.notices.queue = noisy.notices.queue.take 31 ++ [lineStateEvent .noDie .ready] := by decide

/-- RESET_N low and high, and the reply to RESTART in transmission. -/
theorem test_met_RestartsTaken :
    let low : State := { State.reset with resetLow := true }
    let s : State := { ready with link := { ready.link with
      answering := .sending
        { kind := 0x86, tag := 1, status := .ok, eventCount := 0, mode := .ready, body := [] } 10 } }
    low.resetLow = true ∧ ready.resetLow = false ∧ Attending ready ∧ s.resetLow = false
    ∧ (∃ r n, s.link.answering = .sending r n ∧ r.kind = 0x86 ∧ r.status = .ok)
    ∧ ((∀ x contact l, Instr.leadEdge ≠ .powerOn x contact l) ∧ (∀ x, Instr.leadEdge ≠ .resetNRelease x)
      ∧ Instr.leadEdge ≠ .diePresentCloses ∧ Instr.leadEdge ≠ .diePresentOpens) :=
  ⟨rfl, rfl, by decide, rfl, ⟨_, _, rfl, rfl, rfl⟩, nofun, nofun, nofun, nofun⟩

theorem test_met_ReceiverAssemblesFrame :
    ready.resetLow = false ∧ ready.link.receiver = .hunt ∧ (List.replicate 510 (0 : Byte)).length ≤ 510
    ∧ ([] : List Byte).length ≤ 510 := by decide

/-- READ_STATUS of the worked frame, byte by byte: it is answered. -/
theorem test_rx_read_status :
    (([0xC3, 0x02, 0x00, 0x02, 0x11, 0xC0, 0xF0] : List Byte).foldl (fun s b => after (.rxByte b) s) ready).link.answering
      = (after (.readStatus 0x11 []) ready).link.answering := by decide

/-- The receiver in each state: a length of 2, of 1 and of 513, a byte before the last, and a last byte that agrees (the
check code of the worked frame, 10) or does not. -/
theorem test_met_ReceiverTakes :
    let s (r : Receiver) : State := { ready with link := { ready.link with receiver := r, silence := .running 0 } }
    let bytes : List Byte := [0x02, 0x00, 0x02, 0x11, 0xC0]
    (s .hunt).resetLow = false ∧ (s .hunt).link.receiver = .hunt ∧ (s .discard).link.receiver = .discard
    ∧ (s (.inFrame [])).link.receiver = .inFrame [] ∧ (s (.inFrame [2])).link.receiver = .inFrame [2]
    ∧ (2 ≤ (bytes.take 4).length ∧ (bytes.take 4).length < u16 (bytes.take 4) 0 + 3)
    ∧ ((s (.inFrame bytes)).link.receiver = .inFrame bytes ∧ bytes.length = u16 bytes 0 + 3 ∧ 2 ≤ u16 bytes 0
      ∧ (crc (bytes.take (u16 bytes 0 + 2))).toNat = u16 (bytes ++ [0xF0]) (u16 bytes 0 + 2)
      ∧ (crc (bytes.take (u16 bytes 0 + 2))).toNat ≠ u16 (bytes ++ [0xF1]) (u16 bytes 0 + 2))
    ∧ ready.link.silence = .stopped ∧ (s .hunt).link.silence = .running 0 := by decide

/-- A reply in transmission with the slot empty, with a frame of a known kind in it and with one of an unknown kind; a
watch that runs. -/
theorem test_met_AnsweringSideTakes :
    let reply : Reply := { kind := 0x81, tag := 1, status := .ok, eventCount := 0, mode := .ready, body := [] }
    let f (k : Byte) : Frame := { kind := k, tag := 9, body := [] }
    let s (x : Option Frame) : State := { ready with link := { ready.link with answering := .sending reply 10, slot := x } }
    let w : State := { running with
      line := { running.line with watchPeriod := 100, watchTimer := .running 40 }
      link := { running.link with answering := .sending reply 10, slot := some (f 0x07) } }
    ready.resetLow = false ∧ ready.link.answering = .idle ∧ kindOf 0x07 = none ∧ kindOf 0xFF = none
    ∧ (s none).link.slot = none ∧ (s (some (f 0x03))).link.slot = some (f 0x03)
    ∧ (s none).link.answering = .sending reply 10
    ∧ ¬ (reply.kind = 0x86 ∧ reply.status = .ok) ∧ ((0x03 : Byte), Instr.run 9 []) ∈ requests 9 []
    ∧ (s (some (f 0x03))).line.watchTimer = .stopped
    ∧ w.resetLow = false ∧ w.link.slot = some (f 0x07) ∧ w.line.watchTimer = .running 40 := by decide

end Sys2Proof.Tests
end

section
/-! PROOFS. The Book Queue's QUEUE_BOOK (R6), and the requests that read what their body names (R9, R10, R25, R115). -/

namespace Sys2Proof.Machine

open Sys2Proof.Safety

/-! ### The reply of a response -/

/-- The state in which the reply of a response begins (R173). -/
def Response.replied (r : Response) (kind tag : Byte) : State := answered r.st kind tag r.status r.body

/-- A refusal in the state the request is heard in is the whole frame (R172). -/
@[simp] theorem Response.replied_refuse (s : State) (kind tag : Byte) (status : Status) :
    ((heard s).refuse status).replied kind tag = refused s kind tag status := rfl

/-- An acceptance replies OK with its body (R172). -/
@[simp] theorem Response.replied_accept (s : State) (kind tag : Byte) (body : List Byte) :
    (s.accept body).replied kind tag = answered s kind tag .ok body := rfl

/-- The reply to a judgement is the judgement of the replies. -/
@[simp] theorem Response.replied_ite (c : Prop) [Decidable c] (a b : Response) (kind tag : Byte) :
    (if c then a else b).replied kind tag = if c then a.replied kind tag else b.replied kind tag := by
  split <;> rfl

/-- A known request in an attending part ends in the reply of its owner's response. -/
theorem request_replied (r : RequestKind) (tag : Byte) (body : List Byte) (s : State) (h : Attending s) :
    s.request (kindByte r) tag body = .next ((ownerAnswer r body (heard s)).replied (kindByte r) tag) :=
  request_dispatched r tag body s h

/-! ### What stays when a request is heard -/

@[simp] theorem heard_books (s : State) : (heard s).books = s.books := rfl
@[simp] theorem heard_die (s : State) : (heard s).die = s.die := rfl
@[simp] theorem heard_die? (s : State) : (heard s).die? = s.die? := rfl
@[simp] theorem heard_book? (s : State) (id : Nat) : (heard s).book? id = s.books.find? fun b => b.id == id := rfl
@[simp] theorem heard_format? (s : State) (slot : Nat) : (heard s).format? slot = s.formats.getD slot none := rfl

/-! ### Reading lists and ranges -/

/-- A number is in a range unless it is below or above it. -/
theorem inRange_eq_false_iff (lo hi n : Nat) : inRange lo hi n = false ↔ n < lo ∨ hi < n := by
  simp [inRange]; omega

/-- Entries that are read one by one are all read, or one of them is refused. -/
theorem allSome_map_ite {α β : Type} (P : α → Prop) [DecidablePred P] (g : α → β) (l : List α) :
    allSome (l.map fun a => if P a then none else some (g a)) = if ∃ a ∈ l, P a then none else some (l.map g) := by
  induction l with
  | nil => simp [allSome]
  | cons a l ih =>
    by_cases ha : P a
    · simp [allSome, ha]
    · by_cases hl : ∃ x ∈ l, P x <;> simp [allSome, ha, hl, ih]

/-! ### The leaf entries of a QUEUE_BOOK body -/

/-- Check 7 of R6 fails for the `i`th leaf entry. -/
abbrev LeafRefused (body : List Byte) (i : Nat) : Prop :=
  u8 body (5 + 4 * i) = 0 ∨ 3 < u8 body (5 + 4 * i) ∨ u16 body (6 + 4 * i) < 40 ∨ 3000 < u16 body (6 + 4 * i)
    ∨ 1 < u8 body (8 + 4 * i)

/-- The `i`th leaf of the body (R2), for an entry that is not refused. -/
def leafAt (body : List Byte) (i : Nat) : Leaf :=
  { role := if u8 body (5 + 4 * i) = 1 then .cover else if u8 body (5 + 4 * i) = 2 then .leaf else .back
    caliper := u16 body (6 + 4 * i), notch := decide (u8 body (8 + 4 * i) = 1) }

theorem Role.ofCode_eq (n : Nat) :
    Role.ofCode n =
      if n = 0 ∨ 3 < n then none else some (if n = 1 then .cover else if n = 2 then .leaf else .back) := by
  unfold Role.ofCode
  grind

theorem flagOfCode_eq (n : Nat) : flagOfCode n = if 1 < n then none else some (decide (n = 1)) := by
  rcases n with _ | _ | n <;> simp [flagOfCode]

theorem Hanger.ofCode_eq (n : Nat) :
    Hanger.ofCode n =
      if 2 < n then Option.none else some (if n = 0 then .none else if n = 1 then .hook else .drilled) := by
  unfold Hanger.ofCode
  grind

theorem readLeaf_eq (body : List Byte) (i : Nat) :
    readLeaf body (5 + 4 * i) = if LeafRefused body i then none else some (leafAt body i) := by
  have h1 : 5 + 4 * i + 1 = 6 + 4 * i := by omega
  have h3 : 5 + 4 * i + 3 = 8 + 4 * i := by omega
  rw [readLeaf, h1, h3, Role.ofCode_eq, flagOfCode_eq]
  by_cases hrole : u8 body (5 + 4 * i) = 0 ∨ 3 < u8 body (5 + 4 * i)
  · rw [if_pos hrole, if_pos (show LeafRefused body i by omega)]
  by_cases hflag : 1 < u8 body (8 + 4 * i)
  · rw [if_neg hrole, if_pos hflag, if_pos (show LeafRefused body i by omega)]
  rw [if_neg hrole, if_neg hflag]
  by_cases hcaliper : u16 body (6 + 4 * i) < 40 ∨ 3000 < u16 body (6 + 4 * i)
  · rw [if_pos (show LeafRefused body i by omega)]
    simp [(inRange_eq_false_iff _ _ _).mpr hcaliper]
  · rw [if_neg (show ¬ LeafRefused body i by omega)]
    simp [inRange, leafAt]
    omega

theorem readLeaves_eq (body : List Byte) (n : Nat) :
    readLeaves body n =
      if ∃ i ∈ List.range n, LeafRefused body i then none else some ((List.range n).map (leafAt body)) := by
  unfold readLeaves
  simp only [readLeaf_eq]
  exact allSome_map_ite (LeafRefused body) (leafAt body) (List.range n)

/-! ### Checks 7 to 10 of QUEUE_BOOK -/

/-- Check 7 of R6 fails: the hanger kind, the leaf count or a leaf entry. -/
abbrev FieldsRefused (body : List Byte) : Prop :=
  2 < u8 body 3 ∨ u8 body 4 < 2 ∨ 40 < u8 body 4 ∨ ∃ i ∈ List.range (u8 body 4), LeafRefused body i

/-- The hanger kind of the body, for a code that is not refused (R176). -/
def hangerAt (body : List Byte) : Hanger :=
  if u8 body 3 = 0 then .none else if u8 body 3 = 1 then .hook else .drilled

/-- The record that QUEUE_BOOK appends (R1). -/
def bookAt (body : List Byte) : Book :=
  newBook (u16 body 0) (u8 body 2) (hangerAt body) ((List.range (u8 body 4)).map (leafAt body))

theorem hangerAt_eq_hook_iff (body : List Byte) : hangerAt body = .hook ↔ u8 body 3 = 1 := by
  unfold hangerAt
  grind

theorem hangerAt_eq_drilled_iff (body : List Byte) (h : u8 body 3 ≤ 2) :
    hangerAt body = .drilled ↔ u8 body 3 = 2 := by
  unfold hangerAt
  grind

theorem leafAt_role_eq_back_iff (body : List Byte) (i : Nat) (h : ¬ LeafRefused body i) :
    (leafAt body i).role = .back ↔ u8 body (5 + 4 * i) = 3 := by
  unfold leafAt
  grind

/-- A book whose leaves are not refused lacks a BACK leaf when no role code is 3 (check 9 of R6). -/
theorem not_any_back_iff (body : List Byte) (n : Nat) (h : ¬ ∃ i ∈ List.range n, LeafRefused body i) :
    (¬ ((List.range n).map (leafAt body)).any (fun l => l.role == .back)) ↔
      ∀ i ∈ List.range n, u8 body (5 + 4 * i) ≠ 3 := by
  have back (i : Nat) (hi : i ∈ List.range n) : (leafAt body i).role = .back ↔ u8 body (5 + 4 * i) = 3 :=
    leafAt_role_eq_back_iff body i fun hr => h ⟨i, hi, hr⟩
  simp only [List.any_map, List.any_eq_true, Function.comp_apply, beq_iff_eq, not_exists, not_and]
  exact forall₂_congr fun i hi => not_congr (back i hi)

/-- A mounted die has another pitch (check 10 of R6). -/
theorem any_pitch_ne_iff (d : Option DieRecord) (p : Nat) :
    (d.map (·.p)).any (fun x => x != p) = true ↔ ∃ x ∈ d.toList, x.p ≠ p := by
  cases d <;> simp

theorem judgeBook_of_fieldsRefused (body : List Byte) (f : Format) (pitch : Option Nat) (h : FieldsRefused body) :
    judgeBook body f pitch = .error .badValue := by
  rw [judgeBook, Hanger.ofCode_eq, readLeaves_eq]
  by_cases hkind : 2 < u8 body 3
  · rw [if_pos hkind]
  by_cases hleaf : ∃ i ∈ List.range (u8 body 4), LeafRefused body i
  · rw [if_neg hkind, if_pos hleaf]
  have hcount : u8 body 4 < 2 ∨ 40 < u8 body 4 := by
    obtain hk | hlow | hhigh | hl := h
    · exact absurd hk hkind
    · exact .inl hlow
    · exact .inr hhigh
    · exact absurd hl hleaf
  rw [if_neg hkind, if_neg hleaf]
  simp only [(inRange_eq_false_iff _ _ _).mpr hcount, Bool.not_false, if_true]

/-- Checks 8 to 10 of R6 in their order, and the record. -/
theorem judgeBook_of_fieldsTaken (body : List Byte) (f : Format) (d : Option DieRecord) (h : ¬ FieldsRefused body) :
    judgeBook body f (d.map (·.p)) =
      if u8 body 3 = 1 ∧ f.g = 0 then .error .badValue
      else if u8 body 3 = 2 ∧ ∀ i ∈ List.range (u8 body 4), u8 body (5 + 4 * i) ≠ 3 then .error .badValue
      else if ∃ x ∈ d.toList, x.p ≠ f.p then .error .mismatch
      else .ok (bookAt body) := by
  obtain ⟨hkind, hlow, hhigh, hleaf⟩ : ¬ 2 < u8 body 3 ∧ ¬ u8 body 4 < 2 ∧ ¬ 40 < u8 body 4 ∧
      ¬ ∃ i ∈ List.range (u8 body 4), LeafRefused body i := by simpa only [not_or] using h
  have hhanger : Hanger.ofCode (u8 body 3) = some (hangerAt body) := by rw [Hanger.ofCode_eq, if_neg hkind, hangerAt]
  have hcount : inRange 2 40 (u8 body 4) = true := by simp [inRange]; omega
  rw [judgeBook, hhanger, readLeaves_eq, if_neg hleaf]
  simp only [hcount, hangerAt_eq_hook_iff, hangerAt_eq_drilled_iff body (not_lt.mp hkind),
    not_any_back_iff body _ hleaf, any_pitch_ne_iff, Bool.not_true, Bool.false_eq_true, if_false, bookAt]

/-! ### QUEUE_BOOK -/

/-- Settles O14: each check of R6 on the owner's side is the statement's, the first six as they stand there, the last
four by `judgeBook_of_fieldsRefused` and `judgeBook_of_fieldsTaken`. -/
theorem queueBookJudged : Obligations.QueueBookJudged := by
  unfold Obligations.QueueBookJudged
  intro s tag body h
  refine (request_replied .queueBook tag body s h).trans (congrArg _ ?_)
  change (reqQueueBook body (heard s)).replied 0x0A tag = _
  simp only [reqQueueBook, Response.replied_ite, Response.replied_refuse, heard_books, heard_book?, heard_format?,
    heard_die?, List.find?_isSome, beq_iff_eq, maxBooks]
  -- checks 1 to 5 stand alike on both sides
  iterate 5 refine congrArg _ ?_
  cases s.formats.getD (u8 body 2) none with
  | none => rfl
  | some f =>
    by_cases hfields : FieldsRefused body
    · simp only [judgeBook_of_fieldsRefused body f _ hfields, if_pos hfields]
      rfl
    · simp only [judgeBook_of_fieldsTaken body f _ hfields, if_neg hfields]
      by_cases hhook : u8 body 3 = 1 ∧ f.g = 0
      · simp only [if_pos hhook]
        rfl
      by_cases hback : u8 body 3 = 2 ∧ ∀ i ∈ List.range (u8 body 4), u8 body (5 + 4 * i) ≠ 3
      · simp only [if_neg hhook, if_pos hback]
        rfl
      by_cases hpitch : ∃ d ∈ s.die?.toList, d.p ≠ f.p
      · simp only [if_neg hhook, if_neg hback, if_pos hpitch]
        rfl
      · simp only [if_neg hhook, if_neg hback, if_neg hpitch]
        rfl

/-! ### The requests that read what their body names -/

/-- The range of pins that READ_PINS names leaves the map (R115). -/
theorem not_pinsInRange_iff (a n : Nat) :
    (!(inRange 0 63 a && inRange 1 64 n && decide (a + n ≤ 64))) = true ↔ 63 < a ∨ n < 1 ∨ 64 < n ∨ 64 < a + n := by
  simp [inRange]
  omega

/-- Settles O18: the codes by the cases of each type, and each request by its owner's answer in the state it is heard
in, with a case for what the body names. -/
theorem namedReadsAnswered : Obligations.NamedReadsAnswered := by
  unfold Obligations.NamedReadsAnswered
  refine ⟨⟨?_, ?_, ?_, ?_⟩, fun s tag body h => ⟨?_, ?_, ?_⟩⟩
  · intro x; cases x <;> decide
  · intro x; cases x <;> decide
  · intro x; cases x <;> decide
  · intro x; cases x <;> decide
  · refine (request_replied .readBook tag body s h).trans (congrArg _ ?_)
    change (reqReadBook body (heard s)).replied 0x0C tag = _
    simp only [reqReadBook, Response.replied_ite, Response.replied_refuse, Response.replied_accept, heard_book?]
    cases s.books.find? fun b => b.id == u16 body 0 <;> rfl
  · refine (request_replied .readFormat tag body s h).trans (congrArg _ ?_)
    change (reqReadFormat body (heard s)).replied 0x09 tag = _
    simp only [reqReadFormat, Response.replied_ite, Response.replied_refuse, heard_format?]
    cases s.formats.getD (u8 body 0) none <;> rfl
  · refine (request_replied .readPins tag body s h).trans (congrArg _ ?_)
    change (reqReadPins body (heard s)).replied 0x16 tag = _
    simp only [reqReadPins, Response.replied_ite, Response.replied_refuse, not_pinsInRange_iff, State.pins?, heard_die]
    cases s.die.iface <;> rfl

end Sys2Proof.Machine
end

section
/-! PROOFS. The Format Table's SET_FORMAT (R24) with the ranges of R22 and the agreement of R23. -/

namespace Sys2Proof.Machine

open Sys2Proof.Safety

/-! ### The slots of gaps (R23, R35) -/

/-- Two gaps that hold slots are apart when no slot lies in both. -/
theorem Gap.meets_eq_false_iff (x y : Gap) (hx : 1 ≤ x.count) (hy : 1 ≤ y.count) :
    x.meets y = false ↔ ∀ j, ¬ (InGap x j ∧ InGap y j) := by
  constructor
  · intro h j
    simp [Gap.meets] at h
    omega
  · intro h
    have hmax := h (max x.first y.first)
    simp [Gap.meets]
    omega

theorem gapsApart_iff (gaps : List Gap) :
    gapsApart gaps = true ↔ gaps.Pairwise fun x y => x.meets y = false := by
  induction gaps with
  | nil => simp [gapsApart]
  | cons x gaps ih => simp [gapsApart, ih]

/-- For gaps that hold slots, the model's check is the pairwise condition of R23. -/
theorem gapsApart_iff_no_shared_slot (gaps : List Gap) (h : ∀ x ∈ gaps, 1 ≤ x.count) :
    gapsApart gaps = true ↔ gaps.Pairwise fun x y => ∀ j, ¬ (InGap x j ∧ InGap y j) := by
  rw [gapsApart_iff]
  exact List.Pairwise.iff_of_mem fun hx hy => Gap.meets_eq_false_iff _ _ (h _ hx) (h _ hy)

/-- A gap that holds slots is off the centred hanger gap, where the format has one. -/
theorem off_hangerGap_iff (x : Gap) (t g : Nat) (hx : 1 ≤ x.count) :
    (g = 0 ∨ x.meets { first := (t - g) / 2, count := g } = false) ↔ ∀ j, ¬ (InGap x j ∧ InHangerGap t g j) := by
  rcases Nat.eq_zero_or_pos g with rfl | hg
  · simp
  · rw [Gap.meets_eq_false_iff x { first := (t - g) / 2, count := g } hx hg]
    simp [hg, hg.ne']

/-! ### What a format holds, by its mode -/

/-- The ranges of the fields that a format holds in either mode (R22). -/
abbrev ScalarsLegal (f : Format) : Prop :=
  8000 ≤ f.wn ∧ f.wn ≤ 50000 ∧ f.wt ≤ 1000 ∧ 500 ≤ f.p ∧ f.p ≤ 2000 ∧ 200 ≤ f.m ∧ f.m ≤ 3000 ∧ f.g ≤ 16
  ∧ f.skewLimit ≤ 255 ∧ 100 ≤ f.stepLimit ∧ f.stepLimit ≤ 5000 ∧ 500 ≤ f.closeLimit ∧ f.closeLimit ≤ 10000

/-- The ranges of the fields that a format holds in FIXED mode only (R22). -/
abbrev FixedFieldsLegal (t : Nat) (gaps : List Gap) : Prop :=
  2 ≤ t ∧ t ≤ 64 ∧ gaps.length ≤ 3 ∧ ∀ x ∈ gaps, 1 ≤ x.count ∧ x.count ≤ 16

theorem formatLegal_of_auto (f : Format) (h : f.mode = .auto) : FormatLegal f ↔ ScalarsLegal f := by
  simp [FormatLegal, ScalarsLegal, h]

theorem formatLegal_of_fixed (f : Format) (t : Nat) (gaps : List Gap) (h : f.mode = .fixed t gaps) :
    FormatLegal f ↔ ScalarsLegal f ∧ FixedLegal f.g t gaps := by
  simp only [FormatLegal, ScalarsLegal, h, and_assoc]

theorem Format.consistent_of_auto (f : Format) (h : f.mode = .auto) : f.consistent = true := by
  simp [Format.consistent, h]

/-- Past the ranges of its fields, a FIXED format is consistent exactly when R23 holds of it. -/
theorem Format.consistent_of_fixed (f : Format) (t : Nat) (gaps : List Gap) (h : f.mode = .fixed t gaps)
    (hfields : FixedFieldsLegal t gaps) : f.consistent = true ↔ FixedLegal f.g t gaps := by
  obtain ⟨hlow, hhigh, hlen, hcount⟩ := hfields
  have hpos : ∀ x ∈ gaps, 1 ≤ x.count := fun x hx => (hcount x hx).1
  have hhanger : (f.g = 0 ∨ ∀ x ∈ gaps, x.meets { first := (t - f.g) / 2, count := f.g } = false) ↔
      ∀ x ∈ gaps, ∀ j, ¬ (InGap x j ∧ InHangerGap t f.g j) := by
    simp only [← forall_or_left]
    exact forall₂_congr fun x hx => off_hangerGap_iff x t f.g (hpos x hx)
  have heven : (f.g = 0 ∨ f.g + 2 ≤ t ∧ (t - f.g) % 2 = 0) ↔ (0 < f.g → f.g + 2 ≤ t ∧ (t - f.g) % 2 = 0) := by
    omega
  simp only [Format.consistent, h, FixedLegal, Bool.and_eq_true, Bool.or_eq_true, beq_iff_eq, decide_eq_true_eq,
    List.all_eq_true, Bool.not_eq_true', gapsApart_iff_no_shared_slot gaps hpos, hhanger, heven]
  tauto

/-- A FIXED format meets R22 and R23 when its fields lie in their ranges and the check of R23 passes. -/
theorem fixedLegal_iff (f : Format) (t : Nat) (gaps : List Gap) (h : f.mode = .fixed t gaps) :
    FixedLegal f.g t gaps ↔ FixedFieldsLegal t gaps ∧ f.consistent = true := by
  constructor
  · intro hlegal
    have hfields : FixedFieldsLegal t gaps := by
      obtain ⟨hlow, hhigh, hlen, hcount, -⟩ := hlegal
      exact ⟨hlow, hhigh, hlen, hcount⟩
    exact ⟨hfields, (f.consistent_of_fixed t gaps h hfields).mpr hlegal⟩
  · rintro ⟨hfields, hconsistent⟩
    exact (f.consistent_of_fixed t gaps h hfields).mp hconsistent

/-! ### The format record of a SET_FORMAT body -/

/-- The `i`th fixed-gap place of the body. -/
def gapAt (body : List Byte) (i : Nat) : Gap := { first := u8 body (13 + 2 * i), count := u8 body (14 + 2 * i) }

/-- The fixed gaps of the body, as many as it counts. -/
def gapsAt (body : List Byte) : List Gap := (List.range (u8 body 12)).map (gapAt body)

/-- The format that the body states (R22), for mode and policy codes that are not refused. -/
def formatAt (body : List Byte) : Format :=
  { wn := u16 body 1, wt := u16 body 3, p := u16 body 5
    mode := if u8 body 7 = 0 then .auto else .fixed (u8 body 8) (gapsAt body)
    m := u16 body 9, g := u8 body 11, skewLimit := u8 body 19
    markPolicy := if u8 body 20 = 0 then .required else if u8 body 20 = 1 then .ifRead else .ignored
    stepLimit := u16 body 21, closeLimit := u16 body 23 }

/-- The mode code is known, and in FIXED mode the fields held in it lie in their ranges (R22). -/
abbrev ModeTaken (body : List Byte) : Prop :=
  u8 body 7 = 0 ∨ (u8 body 7 = 1 ∧ FixedFieldsLegal (u8 body 8) (gapsAt body))

/-- No field of the record is out of its range (R22). -/
abbrev RecordTaken (body : List Byte) : Prop :=
  ModeTaken body ∧ u8 body 20 ≤ 2 ∧ ScalarsLegal (formatAt body)

theorem u8_le (body : List Byte) (o : Nat) : u8 body o ≤ 255 := Nat.le_of_lt_succ (body.getD o 0).isLt

theorem MarkPolicy.ofCode_eq (n : Nat) :
    MarkPolicy.ofCode n =
      if 2 < n then none else some (if n = 0 then .required else if n = 1 then .ifRead else .ignored) := by
  unfold MarkPolicy.ofCode
  grind

/-- The `i`th fixed-gap place counts fewer than 1 slot or more than 16 (R22). -/
abbrev GapRefused (body : List Byte) (i : Nat) : Prop := u8 body (14 + 2 * i) < 1 ∨ 16 < u8 body (14 + 2 * i)

theorem readGap_eq (body : List Byte) (i : Nat) :
    readGap body (13 + 2 * i) = if GapRefused body i then none else some (gapAt body i) := by
  have h1 : 13 + 2 * i + 1 = 14 + 2 * i := by omega
  rw [readGap, h1]
  by_cases hcount : GapRefused body i
  · simp [hcount, (inRange_eq_false_iff _ _ _).mpr hcount]
  · rw [if_neg hcount, if_pos (by simp [inRange]; omega), gapAt]

theorem not_any_gapRefused_iff (body : List Byte) :
    (¬ ∃ i ∈ List.range (u8 body 12), GapRefused body i) ↔ ∀ x ∈ gapsAt body, 1 ≤ x.count ∧ x.count ≤ 16 := by
  simp [gapsAt, gapAt, Nat.one_le_iff_ne_zero]

/-- The fixed-gap places that the body counts are all read, or one of them is refused. -/
theorem readGaps_eq (body : List Byte) :
    allSome ((List.range (u8 body 12)).map fun i => readGap body (13 + 2 * i)) =
      if ∃ i ∈ List.range (u8 body 12), GapRefused body i then none else some (gapsAt body) := by
  simp only [readGap_eq]
  exact allSome_map_ite (GapRefused body) (gapAt body) (List.range (u8 body 12))

@[simp] theorem gapsAt_length (body : List Byte) : (gapsAt body).length = u8 body 12 := by simp [gapsAt]

theorem formatAt_mode_of_auto (body : List Byte) (h : u8 body 7 = 0) : (formatAt body).mode = .auto := by
  simp [formatAt, h]

theorem formatAt_mode_of_fixed (body : List Byte) (h : u8 body 7 = 1) :
    (formatAt body).mode = .fixed (u8 body 8) (gapsAt body) := by simp [formatAt, h]

/-- The fields that FIXED mode adds are read, or one of them is refused. -/
theorem readSlotMode_of_fixed (body : List Byte) (h : u8 body 7 = 1) :
    readSlotMode body 1 =
      if FixedFieldsLegal (u8 body 8) (gapsAt body) then some (.fixed (u8 body 8) (gapsAt body)) else none := by
  have hread : readSlotMode body 1 =
      if inRange 2 64 (u8 body 8) && decide (u8 body 12 ≤ 3) then
        (allSome ((List.range (u8 body 12)).map fun i => readGap body (13 + 2 * i))).map (.fixed (u8 body 8))
      else none := by
    simp [readSlotMode, h]
  rw [hread, readGaps_eq]
  by_cases hgaps : ∃ i ∈ List.range (u8 body 12), GapRefused body i
  · have hrefused : ¬ FixedFieldsLegal (u8 body 8) (gapsAt body) :=
      fun ⟨_, _, _, hcounts⟩ => (not_any_gapRefused_iff body).mpr hcounts hgaps
    rw [if_pos hgaps, if_neg hrefused]
    exact ite_self _
  · have hcounts := (not_any_gapRefused_iff body).mp hgaps
    rw [if_neg hgaps]
    refine if_congr ?_ rfl rfl
    simp only [FixedFieldsLegal, inRange, gapsAt_length, Bool.and_eq_true, decide_eq_true_eq, and_assoc]
    tauto

/-- The slot mode of the body: AUTO with nothing more read, FIXED with its fields in their ranges, or refused. -/
theorem readSlotMode_eq (body : List Byte) :
    readSlotMode body 1 = if ModeTaken body then some (formatAt body).mode else none := by
  by_cases hauto : u8 body 7 = 0
  · rw [if_pos (.inl hauto), formatAt_mode_of_auto body hauto]
    simp [readSlotMode, hauto]
  by_cases hfixed : u8 body 7 = 1
  · rw [readSlotMode_of_fixed body hfixed, formatAt_mode_of_fixed body hfixed]
    simp [ModeTaken, hfixed]
  · simp [readSlotMode, ModeTaken, hauto, hfixed]

/-- Check 4 of R24 but for the agreement of R23: the record is read, or a field of it is out of its range. -/
theorem readFormatRecord_eq (body : List Byte) :
    readFormatRecord body 1 = if RecordTaken body then some (formatAt body) else none := by
  rw [readFormatRecord, readSlotMode_eq, MarkPolicy.ofCode_eq]
  by_cases hmode : ModeTaken body
  · by_cases hpolicy : 2 < u8 body 20
    · have hrefused : ¬ RecordTaken body := fun ⟨_, hcode, _⟩ => absurd hcode (not_le.mpr hpolicy)
      rw [if_pos hmode, if_pos hpolicy, if_neg hrefused]
    · have hskew := u8_le body 19
      rw [if_pos hmode, if_neg hpolicy]
      refine if_congr ?_ rfl rfl
      simp [RecordTaken, hmode, not_lt.mp hpolicy, ScalarsLegal, formatAt, inRange, hskew, and_assoc]
  · have hrefused : ¬ RecordTaken body := fun ⟨htaken, _⟩ => hmode htaken
    rw [if_neg hmode, if_neg hrefused]

/-! ### SET_FORMAT -/

/-- Check 4 of R24 as the model makes it, the ranges and then the agreement, is that of the statement. -/
theorem recordTaken_and_consistent_iff (body : List Byte) :
    RecordTaken body ∧ (formatAt body).consistent = true ↔
      u8 body 7 ≤ 1 ∧ u8 body 20 ≤ 2 ∧ FormatLegal (formatAt body) := by
  by_cases hauto : u8 body 7 = 0
  · have hmode := formatAt_mode_of_auto body hauto
    rw [formatLegal_of_auto _ hmode]
    simp [RecordTaken, ModeTaken, hauto, Format.consistent_of_auto _ hmode]
  by_cases hfixed : u8 body 7 = 1
  · have hmode := formatAt_mode_of_fixed body hfixed
    rw [formatLegal_of_fixed _ _ _ hmode, fixedLegal_iff _ _ _ hmode]
    simp only [RecordTaken, ModeTaken, hfixed, le_refl]
    tauto
  · have hcode : ¬ u8 body 7 ≤ 1 := by omega
    simp [RecordTaken, ModeTaken, hauto, hfixed, hcode]

/-- A slot is in use when a book of the queue names it (check 3 of R24). -/
theorem State.slotUses_ne_zero_iff (s : State) (slot : Nat) : s.slotUses slot ≠ 0 ↔ ∃ b ∈ s.books, b.slot = slot := by
  simp [State.slotUses, List.countP_eq_zero]

/-- SET_FORMAT in an attending part: the checks of R24 in their order, and the record stored. -/
theorem exec_setFormat_eq (s : State) (tag : Byte) (body : List Byte) (h : Attending s) :
    exec (.setFormat tag body) s = .next
      (if body.length ≠ 25 then refused s 0x08 tag .badLength
      else if 7 < u8 body 0 then refused s 0x08 tag .badValue
      else if ∃ b ∈ s.books, b.slot = u8 body 0 then refused s 0x08 tag .inUse
      else if RecordTaken body ∧ (formatAt body).consistent = true then
        answered { heard s with formats := s.formats.set (u8 body 0) (some (formatAt body)) } 0x08 tag .ok []
      else refused s 0x08 tag .badValue) := by
  refine (request_replied .setFormat tag body s h).trans (congrArg _ ?_)
  change (reqSetFormat body (heard s)).replied 0x08 tag = _
  simp only [reqSetFormat, Response.replied_ite, Response.replied_refuse, State.slotUses_ne_zero_iff, heard_books,
    readFormatRecord_eq]
  -- checks 1 to 3 stand alike on both sides
  iterate 3 refine congrArg _ ?_
  by_cases hrecord : RecordTaken body
  · by_cases hconsistent : (formatAt body).consistent = true
    · simp only [if_pos hrecord, if_pos hconsistent, if_pos (And.intro hrecord hconsistent)]
      rfl
    · simp only [if_pos hrecord, if_neg hconsistent, if_neg (not_and_of_not_right _ hconsistent)]
      rfl
  · simp only [if_neg hrecord, if_neg (not_and_of_not_left _ hrecord)]
    rfl

/-- Settles O19: each clause is the branch of `exec_setFormat_eq` that its conditions lead to. -/
theorem setFormatJudged : Obligations.SetFormatJudged := by
  unfold Obligations.SetFormatJudged
  intro s tag body h slot gap f
  have unused : (∀ b ∈ s.books, b.slot ≠ slot) → ¬ ∃ b ∈ s.books, b.slot = slot :=
    fun hfree ⟨b, hb, hslot⟩ => hfree b hb hslot
  rw [exec_setFormat_eq s tag body h]
  refine ⟨fun hlen => ?_, fun hlen hslot => ?_, fun hlen hslot huse => ?_, fun hlen hslot hfree hbad => ?_,
    fun hlen hslot hfree hmode hpolicy hlegal => ?_⟩
  · rw [if_pos hlen]
  · rw [if_neg (not_not_intro hlen), if_pos hslot]
  · rw [if_neg (not_not_intro hlen), if_neg (not_lt.mpr hslot), if_pos huse]
  · rw [if_neg (not_not_intro hlen), if_neg (not_lt.mpr hslot), if_neg (unused hfree),
      if_neg (mt (recordTaken_and_consistent_iff body).mp hbad)]
  · rw [if_neg (not_not_intro hlen), if_neg (not_lt.mpr hslot), if_neg (unused hfree),
      if_pos ((recordTaken_and_consistent_iff body).mpr ⟨hmode, hpolicy, hlegal⟩)]
    rfl

end Sys2Proof.Machine
end

section
/-! PROOFS. The requests that read without a body: IDENTIFY, READ_STATUS, READ_TRACK, READ_PROFILE, READ_DIE (R80, R85,
R116, R160). -/

namespace Sys2Proof.Machine

open Sys2Proof.Safety

/-! ### What stays when a request is heard -/

@[simp] theorem heard_link (s : State) : (heard s).link = s.link := rfl
@[simp] theorem heard_track (s : State) : (heard s).track = s.track := rfl
@[simp] theorem heard_cycle (s : State) : (heard s).cycle = s.cycle := rfl
@[simp] theorem heard_drill (s : State) : (heard s).drill = s.drill := rfl
@[simp] theorem heard_tray (s : State) : (heard s).tray = s.tray := rfl

/-- A good frame restarts the watch timer only (R156). -/
@[simp] theorem heard_startCause (s : State) : (heard s).line.startCause = s.line.startCause :=
  Line.goodFrame_startCause s.line

/-! ### A request whose body must be empty -/

/-- A request that its owner refuses with a body, and else answers from the state it is heard in. -/
theorem request_bodyless (r : RequestKind) (reply : List Byte) (tag : Byte) (body : List Byte) (s : State)
    (h : Attending s) (howner : ownerAnswer r body (heard s) =
      if body.length ≠ 0 then (heard s).refuse .badLength else (heard s).accept reply) :
    s.request (kindByte r) tag body = .next
      (if body.length ≠ 0 then refused s (kindByte r) tag .badLength
        else answered (heard s) (kindByte r) tag .ok reply) := by
  rw [request_replied r tag body s h, howner, Response.replied_ite, Response.replied_refuse,
    Response.replied_accept]

/-! ### The sheet entry of READ_TRACK -/

/-- A sheet entry is put together from its fields, where the fields with a code of their own are written as their
codes. -/
theorem Sheet.bytes_of_fields (x : Sheet) (location : Byte) (away : Bool) {role route : Byte}
    {left right caliper mark plan : List Byte} (hrole : role = x.role.code) (hroute : route = x.route.code)
    (hleft : left = orFFFF (x.edges.map (·.l))) (hright : right = orFFFF (x.edges.map (·.r)))
    (hcaliper : caliper = orFFFF x.caliper)
    (hmark : mark = [byte ((x.mark.map (·.leaf)).getD 0), byte ((x.mark.map (·.tag)).getD 0)])
    (hplan : plan = planBytes x.plan) :
    le16 x.seq ++ le16 x.book ++ [byte x.leaf, role, route, location, byte (sheetFlags x away)] ++ left ++ right
        ++ [byte x.skew] ++ caliper ++ mark ++ plan ++ [byte x.holesDrilled, reasonCode x.reason, 0] =
      x.bytes location away := by
  subst hrole hroute hleft hright hcaliper hmark hplan
  rfl

/-- Settles O56: the codes by the cases of each type, and each request by `request_bodyless`, whose reply is the owner's
field by field. -/
theorem bodylessReadsAnswered : Obligations.BodylessReadsAnswered := by
  unfold Obligations.BodylessReadsAnswered
  refine ⟨⟨?_, ?_, ?_, ?_, ?_, ?_, ?_, ?_, ?_, rfl, rfl⟩, ?_⟩
  · intro x; cases x <;> decide
  · intro x; cases x <;> rfl
  · intro x; cases x <;> rfl
  · intro x; cases x <;> rfl
  · intro x; cases x <;> decide
  · intro x; cases x <;> decide
  · intro x; cases x <;> rfl
  · intro x; cases x <;> decide
  · intro x; cases x <;> decide
  intro s tag body h l orAbsent entry profile reads
  have orAbsent_eq (n : Option Nat) : orAbsent n = orFFFF n := by cases n <;> rfl
  have entry_eq (location : Byte) (away : Bool) : entry location away = fun x => x.bytes location away := by
    funext x
    refine Sheet.bytes_of_fields x location away ?role ?route (orAbsent_eq _) (orAbsent_eq _) (orAbsent_eq _)
      ?mark ?plan
    case role => cases x.role <;> rfl
    case route => cases x.route <;> rfl
    case mark => cases x.mark <;> rfl
    case plan =>
      rcases x.plan with _ | ⟨state, punched | board⟩
      · rfl
      · -- the shift is written in two's complement, 16 bits wide
        simp only [planBytes, BitVec.toNat_ofInt, orAbsent_eq]
        cases state <;> rfl
      · cases state <;> rfl
  refine ⟨?identify, ?status, ?track, ?profile, ?die⟩
  case identify =>
    refine request_bodyless .identify _ tag body s h ?_
    change reqIdentify body (heard s) = _
    simp only [reqIdentify, heard_die?, heard_startCause, heard_link]
  case status =>
    refine request_bodyless .readStatus _ tag body s h ?_
    change reqReadStatus body (heard s) = _
    simp only [reqReadStatus, State.statusBytes, heard_tray, heard_drill]
    cases s.tray <;> cases s.drill.hole <;> rfl
  case track =>
    simp only [entry_eq]
    exact request_bodyless .readTrack _ tag body s h rfl
  case profile =>
    refine request_bodyless .readProfile _ tag body s h ?_
    change reqReadProfile body (heard s) = _
    simp only [reqReadProfile, heard_cycle]
    cases s.cycle.staged <;> rfl
  case die =>
    refine request_bodyless .readDie _ tag body s h ?_
    change reqReadDie body (heard s) = _
    simp only [reqReadDie, heard_die?]
    cases s.die? <;> rfl

end Sys2Proof.Machine
end

section
/-! PROOFS. The Cycle Unit's SET_PROFILE (R83) with the range of a profile (R82) and its moment of effect (R84). -/

namespace Sys2Proof.Machine

open Sys2Proof.Safety

/-- A profile is valid when its cycle length is in its range and its three counts rise below it (R82). -/
theorem Profile.valid_iff (p : Profile) :
    p.valid = true ↔ 1000 ≤ p.lc ∧ p.lc ≤ 4000 ∧ 1 ≤ p.pc ∧ p.pc < p.po ∧ p.po < p.pa ∧ p.pa ≤ p.lc - 1 := by
  simp only [Profile.valid, inRange, Bool.and_eq_true, decide_eq_true_eq]
  omega

/-- While RELEASED a profile waits in place of one already staged (R83). -/
theorem Cycle.stage_of_released (c : Cycle) (p : Profile) (h : c.hold = .released) :
    c.stage p = { c with staged := some p } := if_pos h

/-- In either hold a profile is active at once, and none is staged (R84). -/
theorem Cycle.stage_of_held (c : Cycle) (p : Profile) (h : c.hold ≠ .released) :
    c.stage p = { c with active := p, staged := none } := if_neg h

/-- Settles O39: the length stands alike on both sides, the second check is `Profile.valid_iff`, and the hold decides
what staging does. -/
theorem setProfileJudged : Obligations.SetProfileJudged := by
  unfold Obligations.SetProfileJudged
  intro s tag body h p
  refine (request_replied .setProfile tag body s h).trans (congrArg _ ?_)
  change (reqSetProfile body (heard s)).replied 0x10 tag = _
  simp only [reqSetProfile, Response.replied_ite, Response.replied_refuse, Response.replied_accept,
    Profile.valid_iff, heard_cycle]
  refine congrArg _ (if_congr Iff.rfl ?_ rfl)
  by_cases hhold : s.cycle.hold = .released
  · rw [Cycle.stage_of_released _ _ hhold, if_pos hhold]
    rfl
  · rw [Cycle.stage_of_held _ _ hhold, if_neg hhold]
    rfl

end Sys2Proof.Machine
end

section
/-! PROOFS. The Die Interface's WITHDRAW_PIN and RESTORE_PIN (R112, R113). -/

namespace Sys2Proof.Machine

open Sys2Proof.Safety

/-- A pin is in service when the map holds it and it is ACTIVE or WITHDRAWN (R112). -/
theorem pinInService_iff (m : List Pin) (k : Nat) :
    pinInService m k = true ↔ ∃ y ∈ m[k]?.toList, y.state = .active ∨ y.state = .withdrawn := by
  unfold pinInService
  cases m[k]? with
  | none => simp
  | some y => simp

/-- The reply to a pin request: its four checks in their order, and the pin's new state in the map (R112, R113). -/
theorem setPinRequest_replied (x : PinState) (body : List Byte) (s : State) (kind tag : Byte) :
    (setPinRequest x body (heard s)).replied kind tag =
      if body.length ≠ 1 then refused s kind tag .badLength
      else if 63 < u8 body 0 then refused s kind tag .badValue
      else
        match s.die.iface with
        | .mounted d m =>
          if ∃ y ∈ m[u8 body 0]?.toList, y.state = .active ∨ y.state = .withdrawn then
            answered ((heard s).setPins d (setPinState m (u8 body 0) x)) kind tag .ok []
          else refused s kind tag .badValue
        | _ => refused s kind tag .wrongState := by
  simp only [setPinRequest, Response.replied_ite, Response.replied_refuse, heard_die]
  refine if_congr Iff.rfl rfl (if_congr Iff.rfl rfl ?_)
  cases s.die.iface with
  | mounted d m =>
    simp only [Response.replied_ite, Response.replied_refuse, Response.replied_accept, pinInService_iff]
  | empty => rfl
  | mounting => rfl
  | refused => rfl

/-- Settles O43: the two requests share their checks, so each is `setPinRequest_replied` at its kind and pin state. -/
theorem pinServiceSet : Obligations.PinServiceSet := by
  unfold Obligations.PinServiceSet
  intro s tag body h k judged
  constructor
  case left =>
    exact (request_replied .withdrawPin tag body s h).trans
      (congrArg _ (setPinRequest_replied .withdrawn body s 0x14 tag))
  case right =>
    exact (request_replied .restorePin tag body s h).trans
      (congrArg _ (setPinRequest_replied .active body s 0x15 tag))

end Sys2Proof.Machine
end

section
/-! PROOFS. The Drill Controller's DRILL_SUSPEND, DRILL_RESUME and SET_DRILL_BIT (R124, R126, R132). -/

namespace Sys2Proof.Machine

open Sys2Proof.Safety

/-! ### DRILL_SUSPEND -/

/-- The resume timer forbids a suspension while it stands below its mark (R124). -/
theorem Drill.maySuspend_eq_false_iff (d : Drill) : d.maySuspend = false ↔ ∃ ms ∈ d.resume.toList, ms < 200 := by
  unfold Drill.maySuspend
  cases d.resume with
  | none => simp
  | some ms => simp

/-- The reply to DRILL_SUSPEND: its three checks in their order, and the controller SUSPEND_PENDING by request (R124). -/
theorem reqDrillSuspend_replied (s : State) (tag : Byte) (body : List Byte) :
    (reqDrillSuspend body (heard s)).replied 0x1A tag =
      if body.length ≠ 0 then refused s 0x1A tag .badLength
      else if s.drill.isDrilling = false then refused s 0x1A tag .wrongState
      else if ∃ ms ∈ s.drill.resume.toList, ms < 200 then refused s 0x1A tag .tooSoon
      else answered { heard s with drill := { s.drill with mode := .suspendPending .request } } 0x1A tag .ok [] := by
  simp only [reqDrillSuspend, Response.replied_ite, Response.replied_refuse, Response.replied_accept, heard_drill,
    Bool.not_eq_true', Drill.maySuspend_eq_false_iff]
  rfl

/-! ### DRILL_RESUME -/

/-- One event entered (R158). -/
theorem State.push_eq_entered (s : State) (e : Event) : s.push e = { s with notices := entered s.notices [e] } := by
  simp [State.push, State.setNotices, entered]

/-- With a hole left the next hole is sent (R126). -/
theorem State.nextHole_of_hole (s : State) (b : Board) (hu : Nat) (hboard : s.drill.board = some b)
    (hhole : b.holes[s.drill.index]? = some hu) :
    s.nextHole =
      { s with
        drill := { s.drill with mode := .drilling, hole := .running 0 }
        out := s.out ++ [.drillPosition hu, .drillGo] } := by
  obtain ⟨hleft, -⟩ := List.getElem?_eq_some_iff.mp hhole
  have hsent : s.nextHole = s.sendHole := if_pos (by simp [Drill.holesLeft, hboard, hleft])
  rw [hsent]
  simp [State.sendHole, hboard, hhole, State.setDrill, State.emit]

/-- With no hole left the board is finished (R126). -/
theorem State.nextHole_of_no_hole (s : State) (b : Board) (hboard : s.drill.board = some b)
    (hdone : b.holes.length ≤ s.drill.index) :
    s.nextHole = { s with track := s.track.boardBack, drill := s.drill.toIdle } :=
  if_neg (by simp [Drill.holesLeft, hboard, hdone])

/-- The resumed board: the resume timer starts and DRILL_RESUMED names the board, before the next hole (R126). -/
theorem State.resumeBoard_eq (s : State) (b : Board) (hboard : s.drill.board = some b) :
    s.resumeBoard =
      State.nextHole
        { s with
          drill := { s.drill with resume := some 0 }
          notices := entered s.notices
            [{ kind := .drillResumed, reason := none, book := b.book, seq := b.seq, value := s.track.boardHoles }] } := by
  rw [State.resumeBoard, State.push_eq_entered]
  simp [State.boardEvent, hboard, State.setDrill]

/-- DRILL_RESUME in an attending part: its two checks in their order, and the board resumed. -/
theorem exec_drillResume_eq (s : State) (tag : Byte) (body : List Byte) (h : Attending s) :
    exec (.drillResume tag body) s = .next
      (if body.length ≠ 0 then refused s 0x1B tag .badLength
      else if s.drill.mode = .suspended .request ∧ s.line.mode ≠ .halted then
        answered (heard s).resumeBoard 0x1B tag .ok []
      else refused s 0x1B tag .wrongState) := by
  have hmode : (heard s).line.mode = s.line.mode := Line.goodFrame_mode s.line
  refine (request_replied .drillResume tag body s h).trans (congrArg _ ?_)
  change (reqDrillResume body (heard s)).replied 0x1B tag = _
  simp only [reqDrillResume, Response.replied_ite, Response.replied_refuse, Response.replied_accept, heard_drill, hmode]

/-- An accepted DRILL_RESUME replies OK in the state of the resumed board (R126). -/
theorem exec_drillResume_of_suspended (s t : State) (tag : Byte) (h : Attending s)
    (hmode : s.drill.mode = .suspended .request) (hline : s.line.mode ≠ .halted)
    (hresumed : (heard s).resumeBoard = t) :
    exec (.drillResume tag []) s = .next (answered t 0x1B tag .ok []) := by
  rw [exec_drillResume_eq s tag [] h, if_neg (not_not_intro List.length_nil), if_pos ⟨hmode, hline⟩, hresumed]

/-! ### The statement -/

/-- Settles O45: DRILL_SUSPEND by the cases of the controller and its hole, DRILL_RESUME by the branches of
`exec_drillResume_eq` and the holes left, SET_DRILL_BIT by its length. -/
theorem drillRequestsJudged : Obligations.DrillRequestsJudged := by
  unfold Obligations.DrillRequestsJudged
  intro s tag body h resumed
  refine ⟨?suspend, fun hlen => ?resumeLength, fun hbody hstate => ?resumeState,
    fun b hu hbody hmode hline hboard hhole => ?resumeHole, fun b hbody hmode hline hboard hdone => ?resumeDone, ?bit⟩
  case suspend =>
    refine (request_replied .drillSuspend tag body s h).trans (congrArg _ ?_)
    refine (reqDrillSuspend_replied s tag body).trans (if_congr Iff.rfl rfl ?_)
    unfold Drill.isDrilling
    cases s.drill.mode with
    | drilling => cases s.drill.hole <;> rfl
    | idle | suspendPending | suspended | aborting => rfl
  case resumeLength => rw [exec_drillResume_eq s tag body h, if_pos hlen]
  case resumeState =>
    have hrefused : ¬ (s.drill.mode = .suspended .request ∧ s.line.mode ≠ .halted) :=
      fun ⟨hmode, hline⟩ => hstate.elim (· hmode) hline
    rw [exec_drillResume_eq s tag body h, if_neg (by simp [hbody]), if_neg hrefused]
  case resumeHole =>
    subst hbody
    exact exec_drillResume_of_suspended s _ tag h hmode hline
      ((State.resumeBoard_eq (heard s) b hboard).trans (State.nextHole_of_hole _ b hu hboard hhole))
  case resumeDone =>
    subst hbody
    exact exec_drillResume_of_suspended s _ tag h hmode hline
      ((State.resumeBoard_eq (heard s) b hboard).trans (State.nextHole_of_no_hole _ b hboard hdone))
  case bit =>
    refine (request_replied .setDrillBit tag body s h).trans (congrArg _ ?_)
    change (reqSetDrillBit body (heard s)).replied 0x1C tag = _
    simp only [reqSetDrillBit, Response.replied_ite, Response.replied_refuse, Response.replied_accept, heard_drill]
    rfl

end Sys2Proof.Machine
end

section
/-! PROOFS. How an event is entered (R158), and READ_EVENTS and READ_LINK_ERRORS (R159, R174). -/

namespace Sys2Proof.Machine

open Sys2Proof.Safety

@[simp] theorem heard_notices (s : State) : (heard s).notices = s.notices := rfl

/-! ### How an event is entered -/

/-- An event that is dropped raises the count of the newest entry and leaves the older ones (R158). -/
theorem bumpNewest_append (older : List Event) (last : Event) :
    bumpNewest (older ++ [last]) =
      older ++ [{ last with value := if last.value < 65535 then last.value + 1 else 65535 }] := by
  induction older with
  | nil => rfl
  | cons e older ih =>
    cases older with
    | nil => rfl
    | cons e' older => exact congrArg (e :: ·) ih

/-- Below 31 entries an event is appended (R158). -/
theorem enter_of_le (q : List Event) (e : Event) (h : q.length ≤ 30) : enter q e = q ++ [e] := if_pos h

/-- The 32nd place is taken by EVENTS_LOST (R158). -/
theorem enter_of_length_eq (q : List Event) (e : Event) (h : q.length = 31) : enter q e = q ++ [eventsLost] := by
  rw [enter, if_neg (by omega), if_pos h]

/-- A full queue drops the event into its newest entry (R158). -/
theorem enter_of_full (q : List Event) (e : Event) (h : 32 ≤ q.length) : enter q e = bumpNewest q := by
  rw [enter, if_neg (by omega), if_neg (by omega)]

/-! ### READ_EVENTS -/

/-- ATTN is released when READ_EVENTS leaves no entry, and else stays as it is (R159). -/
theorem Notices.drop_eq (n : Notices) (max : Nat) :
    n.drop max = { queue := n.queue.drop max, attn := if n.queue.drop max = [] then false else n.attn } := by
  simp only [Notices.drop, List.isEmpty_iff]

/-- The reply to READ_EVENTS: its two checks in their order, and the oldest entries answered and removed (R159). -/
theorem reqReadEvents_replied (s : State) (tag : Byte) (body : List Byte) :
    (reqReadEvents body (heard s)).replied 0x20 tag =
      if body.length ≠ 1 then refused s 0x20 tag .badLength
      else if u8 body 0 = 0 ∨ 32 < u8 body 0 then refused s 0x20 tag .badValue
      else
        answered ((heard s).setNotices (s.notices.drop (u8 body 0))) 0x20 tag .ok
          (byte (s.notices.queue.take (u8 body 0)).length
            :: ((s.notices.queue.take (u8 body 0)).map Event.bytes).flatten) := by
  simp only [reqReadEvents, Response.replied_ite, Response.replied_refuse, Response.replied_accept, heard_notices]
  refine if_congr Iff.rfl rfl ?_
  cases hrange : inRange 1 32 (u8 body 0) with
  | true =>
    have hin : ¬ (u8 body 0 = 0 ∨ 32 < u8 body 0) := by
      simp only [inRange, decide_eq_true_eq, Bool.and_eq_true] at hrange
      omega
    rw [if_pos rfl, if_neg hin]
  | false =>
    have hout : u8 body 0 = 0 ∨ 32 < u8 body 0 :=
      ((inRange_eq_false_iff 1 32 _).mp hrange).imp_left Nat.lt_one_iff.mp
    rw [if_neg Bool.false_ne_true, if_pos hout]

/-! ### READ_LINK_ERRORS -/

/-- A flag is set, clear, or no flag at all (R176). -/
theorem flagOfCode_cases (n : Nat) :
    (n = 0 ∧ flagOfCode n = some false) ∨ (n = 1 ∧ flagOfCode n = some true) ∨ (1 < n ∧ flagOfCode n = none) := by
  match n with
  | 0 => exact .inl ⟨rfl, rfl⟩
  | 1 => exact .inr (.inl ⟨rfl, rfl⟩)
  | n + 2 => exact .inr (.inr ⟨by omega, rfl⟩)

/-- The reply to READ_LINK_ERRORS: its two checks in their order, and the count and code as they stood before the flag
clears them (R174). -/
theorem reqReadLinkErrors_replied (s : State) (tag : Byte) (body : List Byte) :
    (reqReadLinkErrors body (heard s)).replied 0x21 tag =
      if body.length ≠ 1 then refused s 0x21 tag .badLength
      else if 1 < u8 body 0 then refused s 0x21 tag .badValue
      else if u8 body 0 = 1 then
        answered ((heard s).setLink { s.link with errors := 0, firstError := none }) 0x21 tag .ok
          [byte s.link.errors, firstErrorCode s.link.firstError]
      else answered (heard s) 0x21 tag .ok [byte s.link.errors, firstErrorCode s.link.firstError] := by
  simp only [reqReadLinkErrors, Response.replied_ite, Response.replied_refuse, heard_link]
  refine if_congr Iff.rfl rfl ?_
  obtain ⟨hn, hflag⟩ | ⟨hn, hflag⟩ | ⟨hn, hflag⟩ := flagOfCode_cases (u8 body 0)
  · rw [hflag, hn]; rfl
  · rw [hflag, hn]; rfl
  · rw [hflag, if_pos hn]; rfl

/-! ### The statement -/

/-- Settles O55: the codes by the cases of each type, an entered event by the length of the queue, and each request by
the reply of its owner. -/
theorem eventsAndErrorsRead : Obligations.EventsAndErrorsRead := by
  unfold Obligations.EventsAndErrorsRead
  refine ⟨⟨?kinds, rfl, ?reasons, ?causes, ?modes, ?errors⟩,
    ⟨fun q e => ⟨enter_of_le q e, enter_of_length_eq q e, ?full⟩, fun s tag body h => ?readEvents⟩,
    fun s tag body h => ?readLinkErrors⟩
  case kinds => intro k; cases k <;> decide
  case reasons => intro r; cases r <;> decide
  case causes => intro c; cases c <;> decide
  case modes => intro m; cases m <;> decide
  case errors => intro e; cases e <;> decide
  case full =>
    rintro older last rfl hfull
    rw [enter_of_full _ e hfull, bumpNewest_append]
  case readEvents =>
    refine (request_replied .readEvents tag body s h).trans (congrArg _ ?_)
    refine (reqReadEvents_replied s tag body).trans ?_
    rw [Notices.drop_eq]
    rfl
  case readLinkErrors =>
    refine (request_replied .readLinkErrors tag body s h).trans (congrArg _ ?_)
    refine (reqReadLinkErrors_replied s tag body).trans ?_
    cases s.link.firstError <;> rfl

end Sys2Proof.Machine
end

section
/-! PROOFS. What a command can do, said once: a restart, or one act of the part between updates of the link, of the
outputs and of the watch timer. -/

namespace Sys2Proof.Machine

open Sys2Proof.Safety

/-! ### The acts of the part -/

/-- The acts of the part, each with what its checks have found; only an encoder pulse is bound to its command. -/
inductive Act : Instr → State → State → Prop
  | idle (c s) : Act c s s
  | contact (c s) (closed : Bool) : Act c s (s.setDie { s.die with contact := closed })
  | run (c s) (hmode : s.line.mode = .ready) : Act c s s.startRun
  | drain (c s) (hmode : s.line.mode = .running) : Act c s s.enterDraining
  | stop (c s) : Act c s s.stopLine
  | setFormat (c s) (slot : Nat) (f : Format) (hfree : s.slotUses slot = 0) :
      Act c s (s.setFormats (s.formats.set slot (some f)))
  | queueBook (c s) (id slot : Nat) (hanger : Hanger) (leaves : List Leaf) (hroom : s.books.length < 16)
      (hid : id ≠ 0) (hnew : s.book? id = none) (hformat : (s.format? slot).isSome = true) (hleaves : 2 ≤ leaves.length) :
      Act c s (s.setBooks (s.books ++ [newBook id slot hanger leaves]))
  | cancelSpoil (c s) (id : Nat) : Act c s (s.spoil id .cancelled 0 0)
  | cancelQueued (c s) (id : Nat) (b : Book) (hb : s.book? id = some b) (hqueued : b.state = .queued)
      (hpermit : s.track.permitFor id = false) : Act c s (s.removeBook id)
  | setProfile (c s) (p : Profile) (hvalid : p.valid = true) : Act c s (s.setCycle (s.cycle.stage p))
  | setPins (c s) (d : DieRecord) (m m' : List Pin) (hdie : s.die.iface = .mounted d m) : Act c s (s.setPins d m')
  | drillSuspend (c s) (hdrilling : s.drill.isDrilling = true) :
      Act c s (s.setDrill { s.drill with mode := .suspendPending .request })
  | drillResume (c s) (hmode : s.drill.mode = .suspended .request) : Act c s s.resumeBoard
  | setDrillBit (c s) (life : Nat) : Act c s (s.setDrill { s.drill with bitLife := life, bitCount := 0 })
  | supply (c s) (spool low hooks : Nat) : Act c s (s.supply spool low hooks)
  | setWatch (c s) (ms : Nat) (m : WatchMode) : Act c s (s.setLine (s.line.setWatch ms m))
  | readEvents (c s) (n : Nat) : Act c s (s.setNotices (s.notices.drop n))
  | encPulse (s) (ready : Bool) : Act (.encPulse ready) s (s.encPulse ready)
  | leadEdge (c s) : Act c s s.leadEdge
  | frontLay (c s) (lay : Lay) : Act c s (s.frontLay lay)
  | gauge (c s) (ok : Bool) (r : GaugeReport) : Act c s (s.gauge ok r)
  | markRead (c s) (ok : Bool) (r : MarkReport) : Act c s (s.markRead ok r)
  | caliperDone (c s) (um : Nat) : Act c s (s.caliperDone um)
  | advanceDone (c s) : Act c s s.advanceDone
  | holeDone (c s) : Act c s s.holeDone
  | stepExpiry (c s) : Act c s s.stepExpiry
  | resumeMark (c s) : Act c s s.resumeMark
  | cutDone (c s) : Act c s s.cutDone
  | feedExpiry (c s) : Act c s s.feedExpiry
  | closeDone (c s) : Act c s s.closeDone
  | closeExpiry (c s) : Act c s s.closeExpiry
  | contactCloses (c s) : Act c s s.contactCloses
  | contactOpens (c s) : Act c s s.contactOpens
  | readComplete (c s) (fetched : List Byte) : Act c s (s.readComplete fetched)
  | watchExpiry (c s) : Act c s s.watchExpiry

/-- The state a command is judged in: no output driven, with the link and the line as the frame's arrival left them. -/
def State.readied (s : State) (l : Link) (line : Line) : State := { s with out := [], link := l, line := line }

/-- A restart, completed or held by RESET_N (R161). -/
def Restarted (s t : State) : Prop :=
  (∃ cause rate contact low, t = s.restartValues cause rate contact low) ∨
    ∃ cause straps contact, t = s.restart cause straps contact

/-- At most 255 link errors are counted, and there is no first-error code exactly when none is (R170). -/
def Link.ErrorsKept (l : Link) : Prop := l.errors ≤ 255 ∧ (l.firstError = none ↔ l.errors = 0)

theorem Link.countError_kept (l : Link) (e : LinkError) (h : l.ErrorsKept) : (l.countError e).ErrorsKept := by
  obtain ⟨hle, hnone⟩ := h
  refine ⟨by simp only [Link.countError]; split <;> omega, ?_⟩
  cases hfirst : l.firstError with
  | none => simp [Link.countError, hfirst, hnone.mp hfirst]
  | some x =>
    have hpos : l.errors ≠ 0 := fun h0 => by simp [hnone.mpr h0] at hfirst
    simp only [Link.countError, hfirst, reduceCtorEq, false_iff]
    split <;> omega

theorem Link.dropFrame_kept (l : Link) (e : LinkError) (r : Receiver) (h : l.ErrorsKept) :
    (l.dropFrame e r).ErrorsKept := l.countError_kept e h

theorem Link.huntByte_kept (l : Link) (b : Byte) (h : l.ErrorsKept) : (l.huntByte b).ErrorsKept := by
  unfold Link.huntByte
  split
  · exact h
  split
  · exact h
  · exact l.countError_kept .noise h

/-- An act leaves the link alone. -/
theorem Act.link {c : Instr} {s t : State} (h : Act c s t) : t.link = s.link := by
  cases h with
  | idle | contact | setFormat | queueBook | cancelQueued | setProfile | drillSuspend | setDrillBit | setWatch
  | readEvents => rfl
  | advanceDone =>
    unfold State.advanceDone
    split <;> rfl
  | _ => simp

/-- An act, after which the link may be set; the count of its errors is kept. -/
def ActThenLink (c : Instr) (s t : State) : Prop :=
  ∃ v l, Act c s v ∧ t = v.setLink l ∧ (s.link.ErrorsKept → l.ErrorsKept)

theorem Act.thenLink {c : Instr} {s t : State} (h : Act c s t) : ActThenLink c s t :=
  ⟨t, t.link, h, rfl, fun hs => h.link ▸ hs⟩

theorem ActThenLink.setLink {c : Instr} {s t : State} (h : ActThenLink c s t) (l : Link)
    (hl : t.link.ErrorsKept → l.ErrorsKept) : ActThenLink c s (t.setLink l) := by
  obtain ⟨v, l', hv, rfl, hl'⟩ := h
  exact ⟨v, l, hv, rfl, fun hs => hl (hl' hs)⟩

theorem actThenLink_setLink (c : Instr) (s : State) (l : Link) (hl : s.link.ErrorsKept → l.ErrorsKept) :
    ActThenLink c s (s.setLink l) :=
  (Act.idle c s).thenLink.setLink l hl

/-! ### The requests -/

/-- A refusal is no act. -/
theorem actThenLink_refuse (c : Instr) (s : State) (status : Status) : ActThenLink c s (s.refuse status).st :=
  (Act.idle c s).thenLink

theorem actThenLink_ite (c : Instr) (s : State) (p : Prop) [Decidable p] (a b : Response)
    (ha : p → ActThenLink c s a.st) (hb : ¬ p → ActThenLink c s b.st) : ActThenLink c s (if p then a else b).st := by
  split
  case isTrue h => exact ha h
  case isFalse h => exact hb h

theorem readLeaves_length (body : List Byte) (n : Nat) (leaves : List Leaf) (h : readLeaves body n = some leaves) :
    leaves.length = n := by
  rw [readLeaves_eq] at h
  split at h
  · cases h
  · cases h
    simp

/-- A book that passes checks 7 to 10 of R6 is a new record with at least two leaves. -/
theorem judgeBook_ok (body : List Byte) (f : Format) (pitch : Option Nat) (b : Book)
    (h : judgeBook body f pitch = .ok b) :
    ∃ hanger leaves, 2 ≤ leaves.length ∧ b = newBook (u16 body 0) (u8 body 2) hanger leaves := by
  unfold judgeBook at h
  split at h
  case h_1 hanger leaves hhanger hleaves =>
    by_cases hcount : inRange 2 40 (u8 body 4) = true
    · simp only [hcount, Bool.not_true, Bool.false_eq_true, if_false] at h
      repeat' split at h
      all_goals cases h
      refine ⟨hanger, leaves, ?_, rfl⟩
      rw [readLeaves_length _ _ _ hleaves]
      simp only [inRange, Bool.and_eq_true, decide_eq_true_eq] at hcount
      exact hcount.1
    · simp only [hcount, Bool.not_false, if_true] at h
      cases h
  case h_2 => cases h

theorem actThenLink_queueBook (c : Instr) (body : List Byte) (s : State) :
    ActThenLink c s (reqQueueBook body s).st := by
  unfold reqQueueBook
  refine actThenLink_ite _ _ _ _ _ (fun _ => actThenLink_refuse ..) fun _ => ?_
  refine actThenLink_ite _ _ _ _ _ (fun _ => actThenLink_refuse ..) fun hroom => ?_
  refine actThenLink_ite _ _ _ _ _ (fun _ => actThenLink_refuse ..) fun hid => ?_
  refine actThenLink_ite _ _ _ _ _ (fun _ => actThenLink_refuse ..) fun hnew => ?_
  refine actThenLink_ite _ _ _ _ _ (fun _ => actThenLink_refuse ..) fun _ => ?_
  split
  · exact actThenLink_refuse ..
  rename_i f hformat
  split
  · exact actThenLink_refuse ..
  rename_i b hb
  obtain ⟨hanger, leaves, hleaves, rfl⟩ := judgeBook_ok body f _ b hb
  exact (Act.queueBook c s _ _ hanger leaves (by simpa [maxBooks] using hroom) hid (by simpa using hnew)
    (by rw [hformat]; rfl) hleaves).thenLink

theorem actThenLink_cancelBook (c : Instr) (body : List Byte) (s : State) :
    ActThenLink c s (reqCancelBook body s).st := by
  unfold reqCancelBook
  refine actThenLink_ite _ _ _ _ _ (fun _ => actThenLink_refuse ..) fun _ => ?_
  refine actThenLink_ite _ _ _ _ _ (fun _ => actThenLink_refuse ..) fun _ => ?_
  dsimp only
  split
  · exact actThenLink_refuse ..
  rename_i b hb
  cases hstate : b.state with
  | queued =>
    refine actThenLink_ite _ _ _ _ _ (fun _ => (Act.cancelSpoil c s _).thenLink) fun hpermit => ?_
    exact (Act.cancelQueued c s _ b hb hstate (by simpa using hpermit)).thenLink
  | feeding | fed | stacked => exact (Act.cancelSpoil c s _).thenLink
  | closing => exact actThenLink_refuse ..
  | spoiled => exact (Act.idle c s).thenLink

theorem actThenLink_setPinRequest (c : Instr) (x : PinState) (body : List Byte) (s : State) :
    ActThenLink c s (setPinRequest x body s).st := by
  unfold setPinRequest
  refine actThenLink_ite _ _ _ _ _ (fun _ => actThenLink_refuse ..) fun _ => ?_
  refine actThenLink_ite _ _ _ _ _ (fun _ => actThenLink_refuse ..) fun _ => ?_
  split
  · rename_i d m hdie
    exact actThenLink_ite _ _ _ _ _ (fun _ => (Act.setPins c s d m _ hdie).thenLink) fun _ => actThenLink_refuse ..
  · exact actThenLink_refuse ..

theorem actThenLink_presetPinCounts (c : Instr) (body : List Byte) (s : State) :
    ActThenLink c s (reqPresetPinCounts body s).st := by
  unfold reqPresetPinCounts
  refine actThenLink_ite _ _ _ _ _ (fun _ => actThenLink_refuse ..) fun _ => ?_
  refine actThenLink_ite _ _ _ _ _ (fun _ => actThenLink_refuse ..) fun _ => ?_
  split
  · rename_i d m hdie
    exact actThenLink_ite _ _ _ _ _ (fun _ => (Act.setPins c s d m _ hdie).thenLink) fun _ => actThenLink_refuse ..
  · exact actThenLink_refuse ..

theorem actThenLink_setFormat (c : Instr) (body : List Byte) (s : State) :
    ActThenLink c s (reqSetFormat body s).st := by
  unfold reqSetFormat
  refine actThenLink_ite _ _ _ _ _ (fun _ => actThenLink_refuse ..) fun _ => ?_
  refine actThenLink_ite _ _ _ _ _ (fun _ => actThenLink_refuse ..) fun _ => ?_
  refine actThenLink_ite _ _ _ _ _ (fun _ => actThenLink_refuse ..) fun hfree => ?_
  split
  · exact actThenLink_refuse ..
  · exact actThenLink_ite _ _ _ _ _ (fun _ => (Act.setFormat c s _ _ (not_not.mp hfree)).thenLink)
      fun _ => actThenLink_refuse ..

theorem actThenLink_readLinkErrors (c : Instr) (body : List Byte) (s : State) :
    ActThenLink c s (reqReadLinkErrors body s).st := by
  unfold reqReadLinkErrors
  refine actThenLink_ite _ _ _ _ _ (fun _ => actThenLink_refuse ..) fun _ => ?_
  dsimp only
  split
  · exact actThenLink_refuse ..
  · exact (Act.idle c s).thenLink
  · exact actThenLink_setLink _ _ _ fun _ => ⟨Nat.zero_le _, by simp⟩

/-- A request that only reads. -/
theorem actThenLink_read (c : Instr) (s : State) (r : Response) (h : r.st = s) : ActThenLink c s r.st := by
  rw [h]
  exact (Act.idle c s).thenLink

/-- What an owner does to the part is an act, or sets the link. -/
theorem actThenLink_ownerAnswer (c : Instr) (r : RequestKind) (body : List Byte) (s : State) :
    ActThenLink c s (ownerAnswer r body s).st := by
  have refusedOr (p : Prop) [Decidable p] (status : Status) (b : Response) (hb : ¬ p → ActThenLink c s b.st) :
      ActThenLink c s (if p then s.refuse status else b).st :=
    actThenLink_ite _ _ _ _ _ (fun _ => actThenLink_refuse ..) hb
  cases r with
  | identify => exact refusedOr _ _ _ fun _ => (Act.idle c s).thenLink
  | readStatus => exact refusedOr _ _ _ fun _ => (Act.idle c s).thenLink
  | run => exact refusedOr _ _ _ fun _ => refusedOr _ _ _ fun hmode => (Act.run c s (not_not.mp hmode)).thenLink
  | drain => exact refusedOr _ _ _ fun _ => refusedOr _ _ _ fun hmode => (Act.drain c s (not_not.mp hmode)).thenLink
  | stop => exact refusedOr _ _ _ fun _ => (Act.stop c s).thenLink
  | restart => exact refusedOr _ _ _ fun _ => (Act.idle c s).thenLink
  | setFormat => exact actThenLink_setFormat c body s
  | readFormat =>
    refine refusedOr _ _ _ fun _ => refusedOr _ _ _ fun _ => actThenLink_read _ _ _ ?_
    split <;> rfl
  | queueBook => exact actThenLink_queueBook c body s
  | cancelBook => exact actThenLink_cancelBook c body s
  | readBook =>
    refine refusedOr _ _ _ fun _ => actThenLink_ite _ _ _ _ _ (fun _ => (Act.idle c s).thenLink) fun _ =>
      actThenLink_read _ _ _ ?_
    split <;> rfl
  | readTrack => exact refusedOr _ _ _ fun _ => (Act.idle c s).thenLink
  | setProfile =>
    exact refusedOr _ _ _ fun _ =>
      actThenLink_ite _ _ _ _ _ (fun hvalid => (Act.setProfile c s _ hvalid).thenLink) fun _ => actThenLink_refuse ..
  | readProfile => exact refusedOr _ _ _ fun _ => (Act.idle c s).thenLink
  | withdrawPin => exact actThenLink_setPinRequest c .withdrawn body s
  | restorePin => exact actThenLink_setPinRequest c .active body s
  | readPins =>
    refine refusedOr _ _ _ fun _ => refusedOr _ _ _ fun _ => actThenLink_read _ _ _ ?_
    split <;> rfl
  | presetPinCounts => exact actThenLink_presetPinCounts c body s
  | readDie => exact refusedOr _ _ _ fun _ => (Act.idle c s).thenLink
  | drillSuspend =>
    exact refusedOr _ _ _ fun _ => refusedOr _ _ _ fun hdrilling => refusedOr _ _ _ fun _ =>
      (Act.drillSuspend c s (by simpa using hdrilling)).thenLink
  | drillResume =>
    exact refusedOr _ _ _ fun _ => actThenLink_ite _ _ _ _ _ (fun h => (Act.drillResume c s h.1).thenLink) fun _ =>
      actThenLink_refuse ..
  | setDrillBit => exact refusedOr _ _ _ fun _ => (Act.setDrillBit c s _).thenLink
  | setWireSupply => exact refusedOr _ _ _ fun _ => (Act.supply c s _ _ _).thenLink
  | setWatch =>
    refine refusedOr _ _ _ fun _ => ?_
    split
    · exact actThenLink_refuse ..
    · exact (Act.setWatch c s _ _).thenLink
  | readEvents =>
    exact refusedOr _ _ _ fun _ =>
      actThenLink_ite _ _ _ _ _ (fun _ => (Act.readEvents c s _).thenLink) fun _ => actThenLink_refuse ..
  | readLinkErrors => exact actThenLink_readLinkErrors c body s

/-! ### Frames and commands -/

theorem actThenLink_dispatch (c : Instr) (s : State) (f : Frame) : ActThenLink c s (s.dispatch f) := by
  have hanswer : ActThenLink c s (answer f s).st := by
    unfold answer
    split
    · exact actThenLink_refuse ..
    · exact actThenLink_ownerAnswer ..
  exact hanswer.setLink _ id

theorem actThenLink_goodFrame (c : Instr) (s : State) (f : Frame) :
    ActThenLink c (s.setLine s.line.goodFrame) (s.goodFrame f) := by
  unfold State.goodFrame State.handFrame
  split
  · exact actThenLink_dispatch ..
  · split
    · exact actThenLink_setLink _ _ _ id
    · exact actThenLink_setLink _ _ _ (Link.countError_kept _ _)

/-- What a command can do that is no restart: one act in the state it is judged in, after which the link may be set. -/
def Taken (c : Instr) (s t : State) : Prop :=
  ∃ l line, (s.link.ErrorsKept → l.ErrorsKept) ∧ (line = s.line ∨ line = s.line.goodFrame)
    ∧ ActThenLink c (s.readied l line) t

theorem taken_of_act {c : Instr} {s t : State} (h : Act c (s.setOut []) t) : Taken c s t :=
  ⟨s.link, s.line, id, .inl rfl, h.thenLink⟩

theorem taken_setLink (c : Instr) (s : State) (l : Link) (hl : s.link.ErrorsKept → l.ErrorsKept) :
    Taken c s ((s.setOut []).setLink l) :=
  ⟨s.link, s.line, id, .inl rfl, actThenLink_setLink _ _ _ hl⟩

theorem taken_goodFrame (c : Instr) (s : State) (l : Link) (f : Frame) (hl : s.link.ErrorsKept → l.ErrorsKept) :
    Taken c s (((s.setOut []).setLink l).goodFrame f) :=
  ⟨l, s.line.goodFrame, hl, .inr rfl, actThenLink_goodFrame c ((s.setOut []).setLink l) f⟩

/-- A command that RESET_N may hold back is taken when what it does with RESET_N high is. -/
theorem taken_of_live {c : Instr} {s t : State} {f : State → State} (h : s.live f = .next t)
    (hf : Taken c s (f (s.setOut []))) : Taken c s t := by
  cases hlow : s.resetLow with
  | true =>
    rw [live_low s f hlow] at h
    cases h
    exact taken_of_act (Act.idle ..)
  | false =>
    rw [live_high s f hlow] at h
    cases h
    exact hf

theorem taken_rxByte (c : Instr) (s : State) (b : Byte) : Taken c s ((s.setOut []).rxByte b) := by
  unfold State.rxByte
  dsimp only
  split
  · exact taken_setLink c s _ (fun h => Link.huntByte_kept _ b h)
  · unfold State.frameByte
    split
    · exact taken_setLink c s _ id
    split
    · split
      · exact taken_setLink c s _ id
      · exact taken_setLink c s _ (fun h => Link.dropFrame_kept _ _ _ h)
    split
    · exact taken_setLink c s _ id
    split
    · exact taken_goodFrame c s _ _ id
    · exact taken_setLink c s _ (fun h => Link.dropFrame_kept _ _ _ h)
  · exact taken_setLink c s _ id

theorem taken_framingError (c : Instr) (s : State) : Taken c s (s.setOut []).framingError := by
  unfold State.framingError
  dsimp only
  split
  · exact taken_setLink c s _ (fun h => Link.dropFrame_kept _ .framing .discard h)
  · exact taken_setLink c s _ (fun h => Link.dropFrame_kept _ .framing .discard h)
  · exact taken_setLink c s _ id

theorem taken_silenceExpiry (c : Instr) (s : State) : Taken c s (s.setOut []).silenceExpiry := by
  unfold State.silenceExpiry
  split
  · exact taken_of_act (Act.idle ..)
  · dsimp only
    split
    · exact taken_setLink c s _ id
    · exact taken_setLink c s _ (fun h => Link.dropFrame_kept _ .truncated .hunt h)
    · exact taken_setLink c s _ id

theorem restarted_or_taken_replySent (c : Instr) (s : State) (x : Straps) :
    Restarted s ((s.setOut []).replySent x) ∨ Taken c s ((s.setOut []).replySent x) := by
  unfold State.replySent
  split
  · exact .inr (taken_of_act (Act.idle ..))
  · split
    · exact .inl (.inr ⟨_, _, _, rfl⟩)
    · split
      · exact .inr (taken_setLink c s _ id)
      · exact .inr ⟨{ s.link with slot := none, answering := .idle }, s.line, id, .inl rfl, actThenLink_dispatch ..⟩

/-- Every command that completes restarts the part or is taken as one act. -/
theorem exec_cases (c : Instr) (s t : State) (h : exec c s = .next t) : Restarted s t ∨ Taken c s t := by
  have request {kind tag : Byte} {body : List Byte} (hr : s.request kind tag body = .next t) :
      Restarted s t ∨ Taken c s t := .inr (taken_of_live hr (taken_goodFrame c s s.link _ id))
  have event {f : State → State} (hf : s.live f = .next t) (ha : Act c (s.setOut []) (f (s.setOut []))) :
      Restarted s t ∨ Taken c s t := .inr (taken_of_live hf (taken_of_act ha))
  cases c with
  | identify | readStatus | run | drain | stop | restart | setFormat | readFormat | queueBook | cancelBook
  | readBook | readTrack | setProfile | readProfile | withdrawPin | restorePin | readPins | presetPinCounts
  | readDie | drillSuspend | drillResume | setDrillBit | setWireSupply | setWatch | readEvents
  | readLinkErrors | unknownKind => exact request h
  | powerOn x contact low =>
    cases h
    cases low
    · exact .inl (.inr ⟨_, _, _, rfl⟩)
    · exact .inl (.inl ⟨_, _, _, _, rfl⟩)
  | resetN =>
    cases h
    split
    · exact .inr (taken_of_act (Act.idle ..))
    · exact .inl (.inl ⟨_, _, _, _, rfl⟩)
  | resetNRelease x =>
    cases h
    split
    · exact .inl (.inr ⟨_, _, _, rfl⟩)
    · exact .inr (taken_of_act (Act.idle ..))
  | replySent x =>
    cases hlow : s.resetLow with
    | true =>
      have hlow' := (live_low s (fun t => t.replySent x) hlow).symm.trans h
      cases hlow'
      exact .inr (taken_of_act (Act.idle ..))
    | false =>
      have hhigh := (live_high s (fun t => t.replySent x) hlow).symm.trans h
      cases hhigh
      exact restarted_or_taken_replySent _ s x
  | rxByte b => exact .inr (taken_of_live (f := fun t => t.rxByte b) h (taken_rxByte _ s b))
  | framingError => exact .inr (taken_of_live h (taken_framingError _ s))
  | silenceTimerExpiry => exact .inr (taken_of_live h (taken_silenceExpiry _ s))
  | diePresentCloses =>
    change (if s.resetLow then _ else _) = _ at h
    split at h
    · cases h
      exact .inr (taken_of_act (Act.contact _ _ true))
    · exact event h (Act.contactCloses ..)
  | diePresentOpens =>
    change (if s.resetLow then _ else _) = _ at h
    split at h
    · cases h
      exact .inr (taken_of_act (Act.contact _ _ false))
    · exact event h (Act.contactOpens ..)
  | encPulse ready => exact event (f := fun t => t.encPulse ready) h (Act.encPulse ..)
  | leadEdge => exact event h (Act.leadEdge ..)
  | frontLayEdge lay => exact event (f := fun t => t.frontLay lay) h (Act.frontLay ..)
  | gaugeReport ok r => exact event (f := fun t => t.gauge ok r) h (Act.gauge ..)
  | markReport ok r => exact event (f := fun t => t.markRead ok r) h (Act.markRead ..)
  | caliperConversionComplete um => exact event (f := fun t => t.caliperDone um) h (Act.caliperDone ..)
  | advanceDone => exact event h (Act.advanceDone ..)
  | holeDone => exact event h (Act.holeDone ..)
  | drillStepLimitExpiry => exact event h (Act.stepExpiry ..)
  | resumeTimerMark => exact event h (Act.resumeMark ..)
  | cutDone => exact event h (Act.cutDone ..)
  | feedTimerExpiry => exact event h (Act.feedExpiry ..)
  | closeDone => exact event h (Act.closeDone ..)
  | closeLimitExpiry => exact event h (Act.closeExpiry ..)
  | descriptorReadComplete fetched => exact event (f := fun t => t.readComplete fetched) h (Act.readComplete ..)
  | watchTimerExpiry => exact event h (Act.watchExpiry ..)

/-! ### What every step keeps -/

/-- What a restart sets, whether it completes or is held (R161). -/
theorem Restarted.fields {s t : State} (h : Restarted s t) :
    t.line.mode = .noDie ∧ t.line.haltCause = none ∧ t.line.watchTimer = .stopped ∧ t.line.boundary = false
    ∧ t.notices = State.reset.notices ∧ t.formats = State.reset.formats ∧ t.books = [] ∧ t.die? = none
    ∧ t.arrival = State.reset.arrival ∧ t.track = State.reset.track ∧ t.cycle = State.reset.cycle
    ∧ t.drill = State.reset.drill ∧ t.tray = .empty ∧ t.wire = State.reset.wire ∧ t.closer = State.reset.closer
    ∧ t.link.errors = 0 ∧ t.link.firstError = none
    ∧ ∀ o ∈ t.out, o = .pinLoad [] ∨ o = .descriptorRead descriptorAddress := by
  obtain ⟨cause, rate, contact, low, rfl⟩ | ⟨cause, straps, contact, rfl⟩ := h
  · refine ⟨rfl, rfl, rfl, rfl, rfl, rfl, rfl, rfl, rfl, rfl, rfl, rfl, rfl, rfl, rfl, rfl, rfl, ?_⟩
    intro o ho
    cases ho
  · obtain ⟨-, -, -, -, hout⟩ := State.restart_kept s cause straps contact
    rw [hout]
    cases contact
    · exact ⟨rfl, rfl, rfl, rfl, rfl, rfl, rfl, rfl, rfl, rfl, rfl, rfl, rfl, rfl, rfl, rfl, rfl, by simp⟩
    · exact ⟨rfl, rfl, rfl, rfl, rfl, rfl, rfl, rfl, rfl, rfl, rfl, rfl, rfl, rfl, rfl, rfl, rfl,
        by simp [descriptorAddress]⟩

/-- A property of the link that a restart brings about and that every command keeps, is kept by every step: the count of
the link errors is one. -/
theorem step_keeps_linkErrors (s t : State) (hs : s.link.ErrorsKept) (h : step s = .next t) : t.link.ErrorsKept := by
  unfold step at h
  split at h
  · cases h
    exact hs
  · obtain hr | ⟨l, line, hl, -, v, l', hv, rfl, hl'⟩ := exec_cases _ _ t h
    · obtain ⟨-, -, -, -, -, -, -, -, -, -, -, -, -, -, -, herrors, hfirst, -⟩ := hr.fields
      exact ⟨by omega, by simp [herrors, hfirst]⟩
    · exact hl' (hl hs)

/-- A property that a restart brings about, that the queue, the link, the outputs and a good frame's restart of the watch
leave alone, and that every act keeps, is kept by every step. -/
theorem step_keeps {P : State → Prop} (hrestart : ∀ s t, Restarted s t → P t)
    (hreadied : ∀ s l line, (line = s.line ∨ line = s.line.goodFrame) → P s → P (s.readied l line))
    (hpending : ∀ s p, P s → P (s.setPending p)) (hlink : ∀ s l, P s → P (s.setLink l))
    (hact : ∀ c s t, Act c s t → P s → P t) (s t : State) (hs : P s) (h : step s = .next t) : P t := by
  unfold step at h
  split at h
  · cases h
    exact hs
  · rename_i c rest _
    obtain hr | ⟨l, line, -, hline, v, l', hv, rfl, -⟩ := exec_cases c _ t h
    · exact hrestart _ _ hr
    · exact hlink _ _ (hact _ _ _ hv (hreadied _ l line hline (hpending _ _ hs)))

end Sys2Proof.Machine
end

section
/-! PROOFS. The moves that acts are made of: the smallest changes that every law of the part survives. An act is a chain
of them, so a law that each move keeps is kept by every step. -/

namespace Sys2Proof.Machine

open Sys2Proof.Safety

/-! ### What the laws look at -/

/-- What the laws look at of a sheet record. -/
def Sheet.gist (x : Sheet) : Nat × Nat × Nat × Route × Option PlanBody :=
  (x.seq, x.book, x.leaf, x.route, x.plan.map (·.body))

/-- What the laws look at of a LANE entry. -/
def LaneEntry.gist (e : LaneEntry) : (Nat × Nat × Nat × Route × Option PlanBody) × Bool := (e.sheet.gist, e.away)

/-- The laws do not tell the two tracks apart. -/
structure Track.Like (t u : Track) : Prop where
  reg : u.reg.map Sheet.gist = t.reg.map Sheet.gist
  punch : u.punch.map Sheet.gist = t.punch.map Sheet.gist
  notch : u.notch.map Sheet.gist = t.notch.map Sheet.gist
  lane : u.lane.map LaneEntry.gist = t.lane.map LaneEntry.gist
  permit : u.permit = t.permit

/-- Nothing that a law looks at has changed. -/
structure State.Alike (s t : State) : Prop where
  books : t.books = s.books
  formats : t.formats = s.formats
  die : t.die? = s.die?
  track : t.track = s.track
  tray : t.tray = s.tray
  feeder : t.wire.feeder = s.wire.feeder
  closing : t.closer.mode.book? = s.closer.mode.book?
  line : t.line = s.line
  active : t.cycle.active = s.cycle.active
  staged : t.cycle.staged = s.cycle.staged
  count : t.cycle.count = s.cycle.count
  hold : t.cycle.hold = s.cycle.hold
  drillMode : t.drill.mode = s.drill.mode
  board : t.drill.board = s.drill.board
  index : t.drill.index = s.drill.index
  hole : t.drill.hole = s.drill.hole
  notices : t.notices = s.notices
  out : t.out = s.out

/-- Neither PUNCH_FIRE nor a cut command. -/
def Output.Plain : Output → Prop
  | .punchFire => False
  | .wireCut _ _ => False
  | _ => True

/-- What a chain of moves may drive: no cut command and no PUNCH_FIRE, no PUNCH_FIRE, or any output. -/
inductive Rank where
  | plain | cutting | punching
deriving DecidableEq

/-! ### The moves -/

/-- The moves that a spoil is made of: they touch neither the line nor the cycle nor the die. -/
inductive SpoilMove (r : Rank) : State → State → Prop
  | elsewhere (s t) (h : s.Alike t) : SpoilMove r s t
  | note (s) (e : Event) : SpoilMove r s (s.push e)
  | emit (s) (o : Output) (ho : o.Plain) : SpoilMove r s (s.emit o)
  | emitCut (s) (n : Nat) (hook : Bool) (hr : r ≠ .plain) : SpoilMove r s (s.emit (.wireCut n hook))
  | sweep (s) : SpoilMove r s s.sweep
  | markSpoiled (s) (id : Nat) (reason : Reason) : SpoilMove r s (s.updateBook id (Book.spoil reason))
  | condemn (s) (id : Nat) : SpoilMove r s (s.setTrack (s.track.condemn id))
  | drillOn (s) (d : Drill) (hboard : d.board = s.drill.board) (hmode : d.mode ≠ .idle)
      (hbusy : s.drill.mode ≠ .idle ∨ ∃ ms, s.drill.hole = .running ms) : SpoilMove r s (s.setDrill d)
  | finishBoard (s) : SpoilMove r s s.finishBoard
  | dumpTray (s) (id : Nat) (htray : s.tray.book? = some id) :
      SpoilMove r s ((s.updateBook id Book.dumpStack).setTray .empty)
  | idleFeeder (s) : SpoilMove r s (s.setWire { s.wire with feeder := .idle })
  | serve (s) (b : Book) (w : Wire) (hb : s.book? b.id = some b)
      (hfor : (s.wire.feeder = .idle ∧ s.tray.book? = some b.id) ∨ s.wire.feeder = .waitingWire b.id)
      (hw : w.feeder = .feeding b.id (b.tBook.getD 0) (.running 0) ∨ w.feeder = .waitingWire b.id) :
      SpoilMove r s (s.setWire w)

/-- The moves of the part. -/
inductive Move (r : Rank) : State → State → Prop
  | inner (s t) (h : SpoilMove r s t) : Move r s t
  | emitFire (s) (hr : r = .punching) : Move r s (s.emit .punchFire)
  | dropNotices (s) (n : Nat) : Move r s (s.setNotices (s.notices.drop n))
  -- books and formats
  | setFormat (s) (slot : Nat) (f : Format) (hfree : s.slotUses slot = 0) : Move r s (s.setFormats (s.formats.set slot (some f)))
  | queueBook (s) (id slot : Nat) (hanger : Hanger) (leaves : List Leaf) (hroom : s.books.length < 16)
      (hid : id ≠ 0) (hnew : s.book? id = none) (hformat : (s.format? slot).isSome = true) (hleaves : 2 ≤ leaves.length) :
      Move r s (s.setBooks (s.books ++ [newBook id slot hanger leaves]))
  | removeQueued (s) (id : Nat) (b : Book) (hb : s.book? id = some b) (hqueued : b.state = .queued)
      (hpermit : s.track.permitFor id = false) : Move r s (s.removeBook id)
  -- the track
  | retouch (s) (t : Track) (h : s.track.Like t) : Move r s (s.setTrack t)
  | endPermit (s) : Move r s (s.setTrack s.track.noPermit)
  | newcomer (s) (p : Permit) (b : Book) (leaf : Leaf) (seq : Nat) (hpermit : s.track.permit = some p)
      (hb : s.book? p.book = some b) (hleaf : b.leaves[b.arrived]? = some leaf) :
      Move r s ((s.setTrack { s.track.noPermit with
        reg := some (newSheet seq b leaf (s.routeAtCreation b leaf)) }).updateBook b.id Book.arrive)
  | toBin (s) (x : Sheet) (hx : s.track.notch = some x) :
      Move r s ((s.setTrack { s.track with notch := none, diverter := .bin }).updateBook x.book
        fun b => { b with rejected := b.rejected + 1 })
  | toLane (s) (x : Sheet) (hx : s.track.notch = some x) (hroute : x.route = .punch) : Move r s (s.departLane x)
  | toDrill (s) (x : Sheet) (d : Drill) (hx : s.track.notch = some x) (hroute : x.route = .drill)
      (hmode : d.mode ≠ .idle) (hboard : d.board.isSome = true) :
      Move r s ((s.setTrack { s.track with
        notch := none, diverter := .drill, lane := s.track.lane ++ [{ sheet := x, away := true }] }).setDrill d)
  | toNotch (s) (x : Sheet) (hx : s.track.punch = some x) :
      Move r s (s.setTrack { s.track with punch := none, notch := some x })
  | toPunchRejected (s) (x y : Sheet) (hx : s.track.reg = some x) (hy : y.route = .reject)
      (hbook : y.book = x.book) (hleaf : y.leaf = x.leaf) :
      Move r s (s.setTrack { s.track with reg := none, punch := some y })
  | toPunchPlanned (s) (x : Sheet) (i : PlanInput) (body : PlanBody) (route : Route) (hx : s.track.reg = some x)
      (hroute : x.route ≠ .reject)
      (hinput : s.planInput x = some i) (hplan : planSheet i = .ok body)
      (hbody : (route = .punch ∧ ∃ q, body = .punched q) ∨ (route = .drill ∧ ∃ q, body = .board q))
      (hmode : s.cycle.hold = .released ∨ s.line.mode = .ready) :
      Move r s ((s.setTrack { s.track with
          reg := none, punch := some { x with plan := some { state := .ready, body := body }, route := route } }).updateBook
        x.book fun b => { b with tBook := some body.t })
  | toPunchUnplanned (s) (x : Sheet) (hx : s.track.reg = some x) (hroute : x.route ≠ .reject)
      (hinput : s.planInput x = none) (hmode : s.cycle.hold = .released ∨ s.line.mode = .ready) :
      Move r s (s.setTrack { s.track with reg := none, punch := some x })
  | issue (s) (b : Book) (leaf : Leaf) (hexpected : s.expectedLeaf = some (b, leaf))
      (hadmits : s.admits (s.routesDrill leaf) = true) :
      Move r s (s.setTrack { s.track with permit := some { book := b.id, leaf := b.arrived + 1 }, feedPermit := true })
  | rejectAtPunch (s) (x y : Sheet) (hx : s.track.punch = some x) (hy : y.route = .reject) (hbook : y.book = x.book)
      (hleaf : y.leaf = x.leaf) : Move r s (s.setPunch y)
  -- the stacker and the closer
  | dump (s) (e : LaneEntry) (rest : List LaneEntry) (hlane : s.track.lane = e :: rest) (haway : e.away = false) :
      Move r s ((s.setTrack s.track.popLane).updateBook e.sheet.book fun b => { b with dumped := b.dumped + 1 })
  | lay (s) (e : LaneEntry) (rest : List LaneEntry) (b : Book) (hlane : s.track.lane = e :: rest)
      (haway : e.away = false) (hb : s.book? e.sheet.book = some b)
      (htray : s.tray = .empty ∨ s.tray = .building e.sheet.book) :
      Move r s (((s.setTrack s.track.popLane).updateBook e.sheet.book
        fun b => { b with stacked := b.stacked + 1 }).setTray (.building e.sheet.book))
  | complete (s) (id : Nat) (b : Book) (htray : s.tray = .building id) (hb : s.book? id = some b)
      (hfull : b.stacked = b.leaves.length) :
      Move r s ((s.updateBook id fun b => { b with state := .stacked }).setTray (.complete id))
  | startClose (s) (id loops : Nat) (b : Book) (htray : s.tray = .complete id) (hcloser : s.closer.mode = .idle)
      (hcut : s.wire.feeder = .cutReady id loops) (hb : s.book? id = some b) (limit hooks : Nat) :
      Move r s ((((s.updateBook b.id fun b => { b with state := .closing }).setWire
        { s.wire with feeder := .idle, hooks := hooks }).setTray .empty).setCloser
          { mode := .closing b.id limit (.running 0), hookWait := false })
  | bind (s) (id : Nat) (hclosing : s.closer.mode.book? = some id) :
      Move r s ((s.setBooks (s.books.filter fun b => !(b.id == id))).setCloser { s.closer with mode := .idle })
  -- the wire
  | refeed (s) (id loops : Nat) (ms : Nat) (f : Feeder) (hfeeding : s.wire.feeder = .feeding id loops (.running ms))
      (hf : f = .feeding id loops .timedOut ∨ f = .cutReady id loops) : Move r s (s.setWire { s.wire with feeder := f })
  -- the line, the cycle and the die
  | judgeDrainEnd (s) : Move r s s.judgeDrainEnd
  | toDraining (s) (hmode : s.line.mode = .running ∨ s.line.boundary = true ∨ s.line.watchTimer ≠ .stopped) : Move r s (s.stopWatch.lineTo .draining)
  | halt (s) (c : HaltCause) : Move r s (s.halt c)
  | startRun (s) (hmode : s.line.mode = .ready) : Move r s s.startRun
  | watch (s) (l : Line) (hmode : l.mode = s.line.mode) (hcause : l.haltCause = s.line.haltCause)
      (htimer : l.watchTimer ≠ .stopped → s.line.mode = .running ∨ s.line.watchTimer ≠ .stopped)
      (hboundary : l.boundary = true → s.line.boundary = true ∨ s.line.watchTimer ≠ .stopped) : Move r s (s.setLine l)
  | count (s) (n : Nat) (hhold : s.cycle.hold = .released)
      (hn : n = 0 ∨ (n = s.cycle.count + 1 ∧ n ≠ s.cycle.active.lc)) : Move r s (s.setCycle { s.cycle with count := n })
  | startCycle (s) (hcount : s.cycle.count = 0) : Move r s (s.setCycle { s.cycle.activate with stroke := [] })
  | stage (s) (p : Profile) (hvalid : p.valid = true) : Move r s (s.setCycle (s.cycle.stage p))
  | mount (s) (d : DieRecord) (hiface : s.die.iface = .mounting) : Move r s (s.mount d)
  | unmount (s) (d : DieRecord) (m : List Pin) (hiface : s.die.iface = .mounted d m) : Move r s s.contactOpens
  | stop (s) (hr : r ≠ .plain) : Move r s s.stopLine

/-- A chain of the moves of a spoil. -/
abbrev SpoilMoves (r : Rank) : State → State → Prop := Relation.ReflTransGen (SpoilMove r)

/-- A chain of moves. -/
abbrev Moves (r : Rank) : State → State → Prop := Relation.ReflTransGen (Move r)

theorem SpoilMove.move {r : Rank} {s t : State} (h : SpoilMove r s t) : Moves r s t := .single (.inner s t h)

theorem Move.moves {r : Rank} {s t : State} (h : Move r s t) : Moves r s t := .single h

theorem SpoilMoves.moves {r : Rank} {s t : State} (h : SpoilMoves r s t) : Moves r s t :=
  Relation.ReflTransGen.mono (fun a b hab => Move.inner a b hab) _ _ h

/-- A property that every move keeps is kept by a chain of moves. -/
theorem Moves.keeps {r : Rank} {P : State → Prop} (hP : ∀ s t, Move r s t → P s → P t) {s t : State}
    (h : Moves r s t) (hs : P s) : P t := by
  induction h with
  | refl => exact hs
  | tail _ hm ih => exact hP _ _ hm ih

theorem SpoilMoves.keeps {r : Rank} {P : State → Prop} (hP : ∀ s t, SpoilMove r s t → P s → P t) {s t : State}
    (h : SpoilMoves r s t) (hs : P s) : P t := by
  induction h with
  | refl => exact hs
  | tail _ hm ih => exact hP _ _ hm ih

/-! ### The shared operations as chains -/

section
variable {r : Rank} (s : State)

/-- A change that no law looks at. -/
theorem moves_elsewhere {t : State} (h : s.Alike t) : Moves r s t := (SpoilMove.elsewhere s t h).move

theorem moves_push (e : Event) : Moves r s (s.push e) := (SpoilMove.note s e).move

theorem moves_emit (o : Output) (ho : o.Plain) : Moves r s (s.emit o) := (SpoilMove.emit s o ho).move

theorem spoilMoves_judgeWireLow (b n : Nat) : SpoilMoves r s (s.judgeWireLow b n) := by
  unfold State.judgeWireLow
  split
  · exact .single (.note s _)
  · exact .refl

theorem spoilMoves_startCut (hr : r ≠ .plain) (b : Book) (first : Bool) (hb : s.book? b.id = some b)
    (hfor : (s.wire.feeder = .idle ∧ s.tray.book? = some b.id) ∨ s.wire.feeder = .waitingWire b.id) :
    SpoilMoves r s (s.startCut b first) := by
  have hserve (w : Wire) (hw) : SpoilMoves r s (s.setWire w) := .single (.serve s b w hb hfor hw)
  unfold State.startCut
  dsimp only
  split
  · exact .trans (.tail (hserve { s.wire with
      feeder := .feeding b.id (b.tBook.getD 0) (.running 0), spool := s.wire.spool - b.tBook.getD 0 } (.inl rfl))
      (.emitCut _ _ _ hr)) (spoilMoves_judgeWireLow _ _ _)
  · refine .trans (hserve { s.wire with feeder := .waitingWire b.id } (.inr rfl)) ?_
    split
    · exact .single (.note _ _)
    · exact .refl

theorem State.book?_id {s : State} {id : Nat} {b : Book} (h : s.book? id = some b) : b.id = id := by
  simpa using List.find?_some h

theorem State.mem_of_book? {s : State} {id : Nat} {b : Book} (h : s.book? id = some b) : b ∈ s.books :=
  List.mem_of_find?_eq_some h

theorem spoilMoves_wireStart (hr : r ≠ .plain) : SpoilMoves r s s.wireStart := by
  obtain h | ⟨id, b, hidle, htray, hb, -, h⟩ := s.wireStart_cases
  · rw [h]
  · obtain rfl := State.book?_id hb
    rw [h]
    exact spoilMoves_startCut s hr b true hb (.inl ⟨hidle, htray⟩)

theorem spoilMoves_dropCut (hr : r ≠ .plain) : SpoilMoves r s s.dropCut :=
  .trans (.tail (.single (.idleFeeder s)) (.sweep _)) (spoilMoves_wireStart _ hr)

theorem spoilMoves_drillSpoil (id : Nat) : SpoilMoves r s (s.drillSpoil id) := by
  unfold State.drillSpoil
  split
  · split
    · next hmode _ => exact .single (.drillOn s _ rfl (by simp) (.inl (by simp [hmode])))
    · next hmode => exact .single (.drillOn s _ rfl (by simp) (.inl (by simp [hmode])))
    · exact .single (.finishBoard s)
    · exact .refl
  · exact .refl

theorem spoilMoves_traySpoil (id : Nat) : SpoilMoves r s (s.traySpoil id) := by
  unfold State.traySpoil
  split
  · next htray =>
    refine .tail (.tail (.single (.dumpTray s id htray)) (.elsewhere _ _ ?_)) (.emit _ _ (by trivial))
    exact (by constructor <;> rfl)
  · exact .refl

theorem spoilMoves_wireSpoil (hr : r ≠ .plain) (id : Nat) : SpoilMoves r s (s.wireSpoil id) := by
  unfold State.wireSpoil
  split
  · split
    · exact spoilMoves_dropCut s hr
    · exact .refl
  · split
    · exact spoilMoves_dropCut s hr
    · exact .refl
  · exact .refl

/-- A spoil is a chain of its moves. -/
theorem spoilMoves_spoil (hr : r ≠ .plain) (id : Nat) (reason : Reason) (q v : Nat) :
    SpoilMoves r s (s.spoil id reason q v) := by
  obtain ⟨-, h⟩ | ⟨b, -, -, h⟩ := s.spoil_cases id reason q v
  · rw [h]
  · rw [h]
    refine .tail (.trans (.trans (.trans (.tail (.tail (.single (.markSpoiled s id reason)) (.note _ _))
      (.condemn _ id)) (spoilMoves_drillSpoil _ id)) (spoilMoves_traySpoil _ id)) (spoilMoves_wireSpoil _ hr id))
      (.sweep _)

theorem moves_spoil (hr : r ≠ .plain) (id : Nat) (reason : Reason) (q v : Nat) : Moves r s (s.spoil id reason q v) :=
  (spoilMoves_spoil s hr id reason q v).moves

theorem moves_judgeCloser : Moves r s s.judgeCloser := by
  obtain h | ⟨id, l, b, htray, hcloser, hcut, -, hb, ⟨-, -, h⟩ | ⟨-, h⟩⟩ := s.judgeCloser_cases
  · rw [h]
  · rw [h]
    refine .trans (moves_elsewhere s ?_) (moves_push _ _)
    exact (by constructor <;> rfl)
  · rw [h]
    exact .trans (Move.startClose s id l b htray hcloser hcut hb _ _).moves (moves_emit _ _ (by trivial))

theorem moves_enterDraining (hmode : s.line.mode = .running) : Moves r s s.enterDraining :=
  .tail (.single (.toDraining s (.inl hmode))) (.judgeDrainEnd _)

/-! ### The Drill Controller -/

theorem moves_sendHole (hbusy : s.drill.mode ≠ .idle ∨ ∃ ms, s.drill.hole = .running ms) : Moves r s s.sendHole := by
  unfold State.sendHole
  split
  · exact .trans (.trans (SpoilMove.drillOn s _ (by rfl) (by simp) hbusy).move (moves_emit _ _ (by trivial)))
      (moves_emit _ _ (by trivial))
  · exact (SpoilMove.drillOn s _ (by rfl) (by simp) hbusy).move

theorem Track.like_drillHole (t : Track) : t.Like t.drillHole := by
  refine ⟨rfl, rfl, rfl, ?_, rfl⟩
  rw [Track.drillHole, List.map_map]
  refine List.map_congr_left fun e _ => ?_
  simp only [Function.comp_apply]
  split <;> rfl

theorem moves_countBit : Moves r s s.countBit := by
  unfold State.countBit
  refine .trans (moves_elsewhere s (t := s.setDrill { s.drill with bitCount := bump32 s.drill.bitCount }) ?_) ?_
  · exact (by constructor <;> rfl)
  · dsimp only
    split
    · exact moves_push _ _
    · exact .refl

theorem moves_countHole (hmode : s.drill.mode ≠ .idle) : Moves r s s.countHole :=
  .trans (.trans (Move.retouch s _ s.track.like_drillHole).moves
    (SpoilMove.drillOn _ _ (by rfl) (by exact hmode) (.inl (by exact hmode))).move) (moves_countBit _)

theorem State.countBit_drillMode : s.countBit.drill.mode = s.drill.mode := by
  unfold State.countBit
  dsimp only
  split <;> simp

theorem State.countHole_drillMode : s.countHole.drill.mode = s.drill.mode :=
  State.countBit_drillMode _

theorem moves_finishBoard : Moves r s s.finishBoard := (SpoilMove.finishBoard s).move

theorem moves_nextHole (hmode : s.drill.mode ≠ .idle) : Moves r s s.nextHole := by
  unfold State.nextHole
  split
  · exact moves_sendHole s (.inl hmode)
  · exact moves_finishBoard s

theorem moves_holeDone : Moves r s s.holeDone := by
  unfold State.holeDone
  split
  · split
    · next hmode =>
      have hbusy : s.drill.mode ≠ .idle := by simp [hmode]
      exact .trans (moves_countHole s hbusy) (moves_nextHole _ (by rwa [State.countHole_drillMode]))
    · next o hmode =>
      have hbusy : s.drill.mode ≠ .idle := by simp [hmode]
      exact .trans (.trans (moves_countHole s hbusy) (SpoilMove.drillOn _ _ (by rfl) (by simp)
        (.inl (by rwa [State.countHole_drillMode]))).move) (moves_push _ _)
    · next hmode => exact .trans (moves_countHole s (by simp [hmode])) (moves_finishBoard _)
    · exact .refl
  · exact .refl

theorem moves_resumeBoard (hmode : s.drill.mode ≠ .idle) : Moves r s s.resumeBoard := by
  refine .trans (.trans (moves_elsewhere s (t := s.setDrill { s.drill with resume := some 0 }) ?_) (moves_push _ _))
    (moves_nextHole _ (by simpa using hmode))
  exact (by constructor <;> rfl)

theorem moves_stepExpiry (hr : r ≠ .plain) : Moves r s s.stepExpiry := by
  unfold State.stepExpiry
  split
  · next ms hole =>
    refine .tail (.trans (SpoilMove.drillOn s { s.drill with mode := .drilling, hole := .timedOut } rfl (by simp)
      (.inr ⟨ms, hole⟩)).move ?_) (.halt _ _)
    split
    · exact moves_spoil _ hr _ _ _ _
    · exact .refl
  · exact .refl

/-! ### Stacker, Wire Feed and Closer -/

theorem moves_dumpSheet (e : LaneEntry) (rest : List LaneEntry) (hlane : s.track.lane = e :: rest)
    (haway : e.away = false) : Moves r s (s.dumpSheet e.sheet.book) :=
  .tail (.trans (.trans (Move.dump s e rest hlane haway).moves (moves_emit _ _ (by trivial))) (SpoilMove.sweep _).move)
    (.judgeDrainEnd _)

theorem moves_completeTray (id : Nat) (htray : s.tray = .building id) : Moves r s (s.completeTray id) := by
  unfold State.completeTray
  split
  · exact .refl
  · next b hb =>
    split
    · next hfull => exact .trans (Move.complete s id b htray hb hfull).moves (moves_judgeCloser _)
    · exact .refl

/-- A tray that takes a book is BUILDING for it once it is opened. -/
theorem State.openTray_tray (id : Nat) (h : s.tray.takes id = true) : (s.openTray id).tray = .building id := by
  unfold State.openTray
  cases htray : s.tray with
  | empty => simp
  | building book =>
    rw [htray] at h
    obtain rfl : book = id := by simpa [Tray.takes] using h
    exact htray
  | complete book =>
    rw [htray] at h
    cases h

theorem moves_stackSheet (hr : r ≠ .plain) (e : LaneEntry) (rest : List LaneEntry) (b : Book)
    (hlane : s.track.lane = e :: rest) (haway : e.away = false) (hb : s.book? e.sheet.book = some b)
    (htakes : s.tray.takes e.sheet.book = true) : Moves r s (s.stackSheet e.sheet.book) := by
  have hopen : Moves r s (((s.setTrack s.track.popLane).updateBook e.sheet.book
      fun b => { b with stacked := b.stacked + 1 }).openTray e.sheet.book) := by
    unfold State.openTray
    cases htray : s.tray with
    | empty =>
      simp only [State.updateBook_frame, State.setTrack_tray, htray]
      exact .trans (Move.lay s e rest b hlane haway hb (.inl htray)).moves (spoilMoves_wireStart _ hr).moves
    | building book =>
      rw [htray] at htakes
      obtain rfl : book = e.sheet.book := by simpa [Tray.takes] using htakes
      have hlay := (Move.lay (r := r) s e rest b hlane haway hb (.inr htray)).moves
      simp only [State.updateBook_frame, State.setTrack_tray, htray]
      convert hlay using 1
      simp [State.setTray, State.updateBook, State.setBooks, State.setTrack, htray]
    | complete book =>
      rw [htray] at htakes
      cases htakes
  refine .tail (.trans hopen (moves_completeTray _ _ (State.openTray_tray _ _ ?_))) (.judgeDrainEnd _)
  simpa using htakes

theorem moves_handOver (hr : r ≠ .plain) : Moves r s s.handOver := by
  unfold State.handOver
  split
  · exact .refl
  · next e rest hlane =>
    split
    · exact .refl
    · next haway =>
      have haway : e.away = false := by simpa using haway
      unfold State.offerHead
      split
      · exact .refl
      · next b hb =>
        split
        · exact moves_dumpSheet s e rest hlane haway
        · split
          · next htakes => exact moves_stackSheet s hr e rest b hlane haway hb htakes
          · exact .refl

theorem moves_cutDone (hr : r ≠ .plain) : Moves r s s.cutDone := by
  unfold State.cutDone
  split
  · next id loops ms hfeeding =>
    split
    · exact (spoilMoves_dropCut s hr).moves
    · exact .trans (Move.refeed s id loops ms _ hfeeding (.inr rfl)).moves (moves_judgeCloser _)
  · exact .refl

theorem moves_feedExpiry : Moves r s s.feedExpiry := by
  unfold State.feedExpiry
  split
  · next id loops ms hfeeding =>
    exact .tail (Move.refeed s id loops ms (.feeding id loops .timedOut) hfeeding (.inl rfl)).moves (.halt _ _)
  · exact .refl

theorem moves_supply (hr : r ≠ .plain) (spool low hooks : Nat) : Moves r s (s.supply spool low hooks) := by
  refine .trans (.trans (moves_elsewhere s (t := s.setWire { s.wire with
    spool := clampTo 1000000 spool, lowMark := clampTo 1000000 low, hooks := clampTo 9999 hooks })
    (by constructor <;> rfl)) ?_) (moves_judgeCloser _)
  unfold State.retryCut
  split
  · next id hwaiting =>
    split
    · next b hb =>
      obtain rfl := State.book?_id hb
      exact (spoilMoves_startCut _ hr b false hb (.inr hwaiting)).moves
    · exact .refl
  · exact .refl

theorem moves_closeDone : Moves r s s.closeDone := by
  unfold State.closeDone
  split
  · next id limit ms hclosing =>
    refine .trans (.trans (moves_push s _) (Move.bind _ id ?_).moves) (moves_judgeCloser _)
    simp [hclosing, CloserMode.book?]
  · exact .refl

theorem moves_closeExpiry : Moves r s s.closeExpiry := by
  unfold State.closeExpiry
  split
  · next id limit ms hclosing =>
    have halike : s.Alike (s.setCloser { s.closer with mode := .closing id limit .timedOut }) := by
      refine ⟨rfl, rfl, rfl, rfl, rfl, rfl, ?_, rfl, rfl, rfl, rfl, rfl, rfl, rfl, rfl, rfl, rfl, rfl⟩
      simp [hclosing, CloserMode.book?]
    exact .tail (moves_elsewhere s halike) (.halt _ _)
  · exact .refl

/-! ### The Arrival Latch -/

/-- A measurement of the sheet at REG is no matter of the laws. -/
theorem moves_updateReg (f : Sheet → Sheet) (h : ∀ x, (f x).gist = x.gist) : Moves r s (s.updateReg f) := by
  have hlike : s.track.Like { s.track with reg := s.track.reg.map f } := by
    refine ⟨?_, rfl, rfl, rfl, rfl⟩
    rw [Option.map_map]
    exact congrArg (Option.map · _) (funext h)
  exact (Move.retouch s _ hlike).moves

theorem moves_setArrival (v : Arrival) : Moves r s (s.setArrival v) :=
  moves_elsewhere s (by constructor <;> rfl)

theorem moves_closeSkew (n : Nat) : Moves r s (s.closeSkew n) :=
  .trans (moves_setArrival s _) (moves_updateReg _ _ fun _ => rfl)

theorem moves_frontLay (lay : Lay) : Moves r s (s.frontLay lay) := by
  unfold State.frontLay
  split
  · exact .refl
  · exact moves_setArrival s _
  · split
    · exact .refl
    · exact moves_closeSkew s _

theorem moves_skewPulse : Moves r s s.skewPulse := by
  unfold State.skewPulse
  split
  · split
    · exact moves_setArrival s _
    · exact moves_closeSkew s _
  · exact .refl

theorem moves_gauge (ok : Bool) (g : GaugeReport) : Moves r s (s.gauge ok g) := by
  unfold State.gauge
  split
  · exact moves_updateReg s _ fun _ => rfl
  · exact .refl

theorem moves_markRead (ok : Bool) (m : MarkReport) : Moves r s (s.markRead ok m) := by
  unfold State.markRead
  split
  · exact moves_updateReg s _ fun _ => rfl
  · exact .refl

theorem moves_caliperDone (um : Nat) : Moves r s (s.caliperDone um) := by
  unfold State.caliperDone
  split
  · exact .refl
  · refine .trans (moves_setArrival s _) (moves_updateReg _ _ fun x => ?_)
    split <;> rfl

theorem moves_leadEdge : Moves r s s.leadEdge := by
  have hend : Moves r s (s.setTrack s.track.noPermit).sweep := .trans (Move.endPermit s).moves (SpoilMove.sweep _).move
  unfold State.leadEdge
  split
  · exact (Move.halt s _).moves
  · next p hpermit =>
    split
    · exact hend
    · next b hb =>
      split
      · exact hend
      · next leaf hleaf =>
        let u := s.setArrival
          { nextSeq := seqSucc s.arrival.nextSeq, window := .waiting, conversion := some s.arrival.nextSeq }
        exact .trans (.trans (moves_setArrival s _) (Move.newcomer u p b leaf s.arrival.nextSeq hpermit hb hleaf).moves)
          (SpoilMove.sweep _).move

/-! ### The Sheet Track at an ADVANCE -/

/-- The plan point may be taken: the cycle runs, or the drain has just ended. -/
abbrev Plannable (s : State) : Prop := s.cycle.hold = .released ∨ s.line.mode = .ready

theorem plannable_judgeDrainEnd (h : Plannable s) : Plannable s.judgeDrainEnd := by
  obtain ⟨-, he⟩ | ⟨hmode, -, -, he⟩ := s.judgeDrainEnd_cases
  · rw [he]
    exact h
  · right
    rw [he]
    simp [State.lineTo, hmode]

theorem moves_lapsePermit : Moves r s s.lapsePermit := by
  unfold State.lapsePermit
  split
  · exact .refl
  · exact .tail (.trans (Move.endPermit s).moves (SpoilMove.sweep _).move) (.judgeDrainEnd _)

theorem plannable_lapsePermit (h : Plannable s) : Plannable s.lapsePermit := by
  unfold State.lapsePermit
  split
  · exact h
  · exact plannable_judgeDrainEnd _ (by simpa [Plannable] using h)

theorem moves_departDrill (x : Sheet) (hx : s.track.notch = some x) (hroute : x.route = .drill) :
    Moves r s (s.departDrill x) :=
  .trans (Move.toDrill s x { s.drill with
      mode := .drilling, index := 0, hole := .none
      board := some { seq := x.seq, book := x.book, holes := x.holes, stepLimit := s.stepLimitOf x.book } }
    hx hroute (by simp) rfl).moves (moves_sendHole _ (.inl (by simp)))

theorem moves_divert : Moves r s s.divert := by
  unfold State.divert
  split
  · next hx => exact (Move.retouch s _ (by constructor <;> rfl)).moves
  · next x hx =>
    split
    · exact .tail (.trans (.trans (Move.toBin s x hx).moves (moves_push _ _)) (SpoilMove.sweep _).move) (.judgeDrainEnd _)
    · next hroute => exact (Move.toLane s x hx hroute).moves
    · next hroute => exact moves_departDrill s x hx hroute

theorem plannable_divert (h : Plannable s) : Plannable s.divert := by
  unfold State.divert
  split
  · exact h
  · split
    · exact plannable_judgeDrainEnd _ (by simpa [Plannable] using h)
    · exact h
    · simpa [Plannable] using h

theorem moves_setSetpoints (v : Setpoints) : Moves r s (s.setSetpoints v) :=
  moves_elsewhere s (by constructor <;> rfl)

theorem moves_moveToNotch : Moves r s s.moveToNotch := by
  unfold State.moveToNotch
  split
  · exact .refl
  · next x hx =>
    refine .trans (Move.toNotch s x hx).moves ?_
    dsimp only
    split
    · exact .refl
    · exact .trans (moves_setSetpoints _ _) (moves_emit _ _ (by trivial))

theorem plannable_moveToNotch (h : Plannable s) : Plannable s.moveToNotch := by simpa [Plannable] using h

theorem moves_moveToPunch (hr : r ≠ .plain) (h : Plannable s) : Moves r s s.moveToPunch := by
  unfold State.moveToPunch
  split
  · exact .refl
  next x hx =>
  refine .trans (moves_setArrival s { s.arrival with window := .closed }) ?_
  change Moves r (s.setArrival { s.arrival with window := .closed }) (State.planPoint
    ((s.setArrival { s.arrival with window := .closed }).setTrack { s.track with reg := none, punch := some x }) x)
  have hinput : ∀ i, State.planInput ((s.setArrival { s.arrival with window := .closed }).setTrack
      { s.track with reg := none, punch := some x }) x = i → (s.setArrival { s.arrival with window := .closed }).planInput x = i :=
    fun i hi => hi
  generalize hu : s.setArrival { s.arrival with window := .closed } = u at hinput ⊢
  have hux : u.track.reg = some x := by rw [← hu]; exact hx
  have huh : Plannable u := by rw [← hu]; exact h
  have hut : u.track = s.track := by rw [← hu]; rfl
  rw [← hut] at hinput ⊢
  unfold State.planPoint
  split
  · next hreject => exact (Move.toPunchRejected u x x hux hreject rfl rfl).moves
  next hroute =>
  split
  · next hnone => exact (Move.toPunchUnplanned u x hux hroute (hinput _ hnone) huh).moves
  next i hi =>
  split
  · next body hplan =>
    unfold State.planMade
    cases body with
    | punched q =>
      exact .trans (.trans (Move.toPunchPlanned u x i _ .punch hux hroute (hinput _ hi) hplan
        (.inl ⟨rfl, q, rfl⟩) huh).moves (moves_setSetpoints _ _)) (moves_emit _ _ (by trivial))
    | board q => exact (Move.toPunchPlanned u x i _ .drill hux hroute (hinput _ hi) hplan (.inr ⟨rfl, q, rfl⟩) huh).moves
  · next reason _ =>
    exact .trans (Move.toPunchRejected u x { x with route := .reject, reason := some reason, plan := none } hux rfl rfl
      rfl).moves (moves_spoil _ hr _ _ _ _)

theorem moves_admission : Moves r s s.admission := by
  unfold State.admission
  split
  · exact .refl
  · next b leaf hexpected =>
    split
    · next hadmits => exact (Move.issue s b leaf hexpected hadmits).moves
    · exact .refl

/-! ### The Cycle Unit -/

theorem moves_advanceEvent (hr : r ≠ .plain) (hhold : s.cycle.hold = .released) : Moves r s s.advanceEvent := by
  have h : Plannable ((s.setCycle { s.cycle with outstanding := true }).emit .advanceOut) := .inl hhold
  refine .trans (.trans (moves_elsewhere s (t := s.setCycle { s.cycle with outstanding := true }) ?_)
    (moves_emit _ .advanceOut (by trivial))) ?_
  · exact (by constructor <;> rfl)
  · exact .trans (.trans (.trans (.trans (moves_lapsePermit _) (moves_divert _)) (moves_moveToNotch _))
      (moves_moveToPunch _ hr (plannable_moveToNotch _ (plannable_divert _ (plannable_lapsePermit _ h)))))
      (moves_admission _)

theorem moves_nullStroke : Moves r s s.nullStroke := by
  refine .trans (moves_elsewhere s (t := s.setCycle { s.cycle with chain := [] }) ?_) (moves_emit _ _ (by trivial))
  exact (by constructor <;> rfl)

theorem moves_failAtClose (hr : r ≠ .plain) (x : Sheet) (reason : Reason) (hx : s.track.punch = some x) :
    Moves r s (s.failAtClose x reason) :=
  .trans (.trans (moves_nullStroke s) (Move.rejectAtPunch _ x _ (by simpa using hx) (by rfl) (by rfl) (by rfl)).moves)
    (moves_spoil _ hr _ _ _ _)

theorem moves_punchStroke (hr : r = .punching) (x : Sheet) (pins : List Nat) (hx : s.track.punch = some x) :
    Moves r s (s.punchStroke x pins) := by
  have hlike : s.track.Like { s.track with
      punch := some { x with plan := x.plan.map fun p => { p with state := .applied } } } := by
    refine ⟨rfl, ?_, rfl, rfl, rfl⟩
    rw [hx]
    cases hplan : x.plan <;> simp [Sheet.gist, hplan]
  exact .tail (.trans (.trans (Move.retouch s _ hlike).moves (moves_elsewhere _ (by constructor <;> rfl)))
    (moves_emit _ _ (by trivial))) (.emitFire _ hr)

theorem moves_closePunch (hr : r = .punching) (ready : Bool) : Moves r s (s.closePunch ready) := by
  have hcut : r ≠ .plain := by simp [hr]
  unfold State.closePunch
  split
  · exact moves_nullStroke s
  next x hx =>
  split
  · exact moves_nullStroke s
  split
  · exact moves_failAtClose s hcut x _ hx
  split
  · exact moves_punchStroke s hr x _ hx
  · exact moves_failAtClose s hcut x _ hx

theorem moves_fireNotch : Moves r s s.fireNotch := by
  have hlike : s.track.Like { s.track with notch := s.track.notch.map fun x => { x with notchDone := true } } := by
    refine ⟨rfl, rfl, ?_, rfl, rfl⟩
    rw [Option.map_map]
    rfl
  exact .trans (Move.retouch s _ hlike).moves (moves_emit _ _ (by trivial))

theorem moves_closeEvent (hr : r = .punching) (ready : Bool) : Moves r s (s.closeEvent ready) := by
  have hdraw (u : State) : Moves r u (u.setDraws (u.draws + 1)) := moves_elsewhere u
    (by constructor <;> rfl)
  refine .trans (moves_closePunch s hr ready) ?_
  unfold State.closeEvent
  dsimp only
  split
  · exact moves_fireNotch _
  split
  · split
    · exact .trans (hdraw _) (moves_fireNotch _)
    · exact hdraw _
  · exact .refl

theorem moves_pushWorns (l : List Nat) : ∀ t : State, Moves r t (l.foldl State.pushWorn t) := by
  induction l with
  | nil => exact fun _ => .refl
  | cons k l ih => exact fun t => .trans (moves_push t _) (ih _)

/-- A new pin map under the mounted die is no matter of the laws. -/
theorem moves_setPins (d : DieRecord) (m m' : List Pin) (hdie : s.die.iface = .mounted d m) :
    Moves r s (s.setPins d m') := by
  refine moves_elsewhere s
    ⟨rfl, rfl, ?_, rfl, rfl, rfl, rfl, rfl, rfl, rfl, rfl, rfl, rfl, rfl, rfl, rfl, rfl, rfl⟩
  simp [State.setPins, State.die?, hdie]

theorem moves_countStroke : Moves r s s.countStroke := by
  have htotal : ∀ u : State, Moves r s u → Moves r s
      (match u.die.iface with
      | .mounted d m => (wornNow d.wornAt u.cycle.stroke 0 m).foldl State.pushWorn
          (u.setPins d (countStrokes d.wornAt u.cycle.stroke 0 m))
      | _ => u) := by
    intro u hu
    split
    · next d m hdie => exact .trans (.trans hu (moves_setPins u d m _ hdie)) (moves_pushWorns _ _)
    · exact hu
  refine htotal _ ?_
  split
  · exact .refl
  · exact moves_elsewhere s
      (by constructor <;> rfl)

theorem moves_openEvent (hr : r ≠ .plain) : Moves r s s.openEvent :=
  .trans (moves_countStroke s) (moves_handOver _ hr)

theorem moves_cycleStart (hcount : s.cycle.count = 0) : Moves r s s.cycleStart := by
  unfold State.cycleStart
  split
  · exact (Move.halt s _).moves
  · refine .trans (Move.startCycle s hcount).moves ?_
    unfold State.completeCycle
    dsimp only
    split
    · next hb => exact .tail (.single (.toDraining _ (.inr (.inl hb)))) (.judgeDrainEnd _)
    · exact .refl

theorem moves_countPulse (hr : r = .punching) (ready : Bool) : Moves r s (s.countPulse ready) := by
  have hcut : r ≠ .plain := by simp [hr]
  unfold State.countPulse
  split
  · next hhold =>
    dsimp only
    split
    · exact .trans (Move.count s 0 hhold (.inl rfl)).moves (moves_cycleStart _ rfl)
    next hlc =>
    refine .trans (Move.count s _ hhold (.inr ⟨rfl, hlc⟩)).moves ?_
    split
    · exact moves_closeEvent _ hr ready
    split
    · exact moves_openEvent _ hcut
    split
    · exact moves_advanceEvent _ hcut hhold
    · exact .refl
  · exact .refl

theorem moves_encPulse (hr : r = .punching) (ready : Bool) : Moves r s (s.encPulse ready) :=
  .trans (moves_skewPulse s) (moves_countPulse _ hr ready)

theorem moves_advanceDone : Moves r s s.advanceDone := by
  unfold State.advanceDone
  split
  · exact moves_elsewhere s (by constructor <;> rfl)
  · exact .refl

/-! ### Line Control and the Die Interface -/

theorem moves_watchExpiry : Moves r s s.watchExpiry := by
  unfold State.watchExpiry
  split
  · exact .refl
  next left htimer =>
  have hrunning : s.line.watchTimer ≠ .stopped := by simp [htimer]
  let u := s.push (plainEvent .watchExpired 0 s.line.watchPeriod)
  dsimp only
  split
  · let w := u.setTrack { s.track with feedPermit := false }
    exact .tail (.trans (.trans (moves_push s _) (Move.retouch u { s.track with feedPermit := false }
      (by constructor <;> rfl)).moves) (Move.toDraining w (.inr (.inr hrunning))).moves) (.judgeDrainEnd _)
  · exact .trans (moves_push s _) (Move.watch u { s.line with watchTimer := .stopped, boundary := true } rfl rfl
      (fun h => absurd rfl h) (fun _ => .inr hrunning)).moves

/-- A good frame restarts a running watch timer only (R156). -/
theorem Line.goodFrame_cases (l : Line) :
    l.goodFrame = l ∨ (l.mode = .running ∧ l.goodFrame = { l with watchTimer := .running l.watchPeriod }) := by
  unfold Line.goodFrame
  split
  · next hmode _ => exact .inr ⟨hmode, rfl⟩
  · exact .inl rfl

theorem moves_goodFrameLine : Moves r s (s.setLine s.line.goodFrame) := by
  obtain h | ⟨hmode, h⟩ := s.line.goodFrame_cases
  · rw [h]
    exact moves_elsewhere s (by constructor <;> rfl)
  · rw [h]
    exact (Move.watch s _ (by rfl) (by rfl) (by exact fun _ => .inl hmode) (by exact .inl)).moves

/-- SET_WATCH touches the timer in RUNNING only (R156). -/
theorem moves_setWatch (ms : Nat) (m : WatchMode) : Moves r s (s.setLine (s.line.setWatch ms m)) := by
  unfold Line.setWatch
  dsimp only
  split
  · next hmode => exact (Move.watch s _ (by rfl) (by rfl) (by exact fun _ => .inl hmode) (by exact .inl)).moves
  · exact (Move.watch s _ (by rfl) (by rfl) (by exact .inr) (by exact .inl)).moves

theorem moves_contactCloses : Moves r s s.contactCloses := by
  unfold State.contactCloses
  split
  · next hiface =>
    have halike : s.Alike (s.setDie { s.die with contact := true, iface := .mounting }) := by
      refine ⟨rfl, rfl, ?_, rfl, rfl, rfl, rfl, rfl, rfl, rfl, rfl, rfl, rfl, rfl, rfl, rfl, rfl, rfl⟩
      simp [State.die?, hiface]
    exact .trans (moves_elsewhere s halike) (moves_emit _ _ (by trivial))
  · exact moves_elsewhere s (by constructor <;> rfl)

theorem moves_contactOpens : Moves r s s.contactOpens := by
  cases hiface : s.die.iface with
  | mounted d m => exact (Move.unmount s d m hiface).moves
  | empty | mounting | refused =>
    have halike : s.Alike s.contactOpens := by
      unfold State.contactOpens
      simp only [hiface]
      refine ⟨rfl, rfl, ?_, rfl, rfl, rfl, rfl, rfl, rfl, rfl, rfl, rfl, rfl, rfl, rfl, rfl, rfl, rfl⟩
      simp [State.die?, hiface]
    exact moves_elsewhere s halike

theorem moves_readComplete (fetched : List Byte) : Moves r s (s.readComplete fetched) := by
  unfold State.readComplete
  split
  · next hiface =>
    split
    · exact (Move.mount s _ hiface).moves
    · next c _ =>
      have halike : s.Alike (s.setDie { s.die with iface := .refused, lastRefusal := some c }) := by
        refine ⟨rfl, rfl, ?_, rfl, rfl, rfl, rfl, rfl, rfl, rfl, rfl, rfl, rfl, rfl, rfl, rfl, rfl, rfl⟩
        simp [State.die?, hiface]
      exact .trans (moves_elsewhere s halike) (moves_push _ _)
  · exact .refl

end

/-! ### Every act is a chain of moves -/

/-- The acts, encoder pulses aside, that may start a cut. -/
inductive CutAct : State → State → Prop
  | cancelSpoil (s) (id : Nat) : CutAct s (s.spoil id .cancelled 0 0)
  | stop (s) : CutAct s s.stopLine
  | supply (s) (spool low hooks : Nat) : CutAct s (s.supply spool low hooks)
  | stepExpiry (s) : CutAct s s.stepExpiry
  | cutDone (s) : CutAct s s.cutDone

theorem CutAct.moves {r : Rank} (hr : r ≠ .plain) {s t : State} (h : CutAct s t) : Moves r s t := by
  cases h with
  | cancelSpoil id => exact moves_spoil s hr _ _ _ _
  | stop => exact (Move.stop s hr).moves
  | supply spool low hooks => exact moves_supply s hr _ _ _
  | stepExpiry => exact moves_stepExpiry s hr
  | cutDone => exact moves_cutDone s hr

/-- An act drives no cut command and no PUNCH_FIRE, or may start a cut, or is an encoder pulse. -/
theorem Act.moves_or {c : Instr} {s t : State} (h : Act c s t) :
    (∀ r, Moves r s t) ∨ CutAct s t ∨ ∃ ready, c = .encPulse ready ∧ t = s.encPulse ready := by
  cases h with
  | cancelSpoil _ _ id => exact .inr (.inl (.cancelSpoil s id))
  | stop => exact .inr (.inl (.stop s))
  | supply _ _ spool low hooks => exact .inr (.inl (.supply s spool low hooks))
  | stepExpiry => exact .inr (.inl (.stepExpiry s))
  | cutDone => exact .inr (.inl (.cutDone s))
  | encPulse _ ready => exact .inr (.inr ⟨ready, rfl, rfl⟩)
  | idle => exact .inl fun _ => .refl
  | contact _ _ closed => exact .inl fun _ => moves_elsewhere s (by constructor <;> rfl)
  | run _ _ hmode => exact .inl fun _ => (Move.startRun s hmode).moves
  | drain _ _ hmode => exact .inl fun _ => moves_enterDraining s hmode
  | setFormat _ _ slot f hfree => exact .inl fun _ => (Move.setFormat s slot f hfree).moves
  | queueBook _ _ id slot hanger leaves hroom hid hnew hformat hleaves =>
    exact .inl fun _ => (Move.queueBook s id slot hanger leaves hroom hid hnew hformat hleaves).moves
  | cancelQueued _ _ id b hb hqueued hpermit => exact .inl fun _ => (Move.removeQueued s id b hb hqueued hpermit).moves
  | setProfile _ _ p hvalid => exact .inl fun _ => (Move.stage s p hvalid).moves
  | setPins _ _ d m m' hdie => exact .inl fun _ => moves_setPins s d m m' hdie
  | drillSuspend _ _ hdrilling =>
    have hbusy : s.drill.mode ≠ .idle := by
      intro hidle
      simp [Drill.isDrilling, hidle] at hdrilling
    exact .inl fun _ => (SpoilMove.drillOn s _ (by rfl) (by simp) (.inl hbusy)).move
  | drillResume _ _ hmode => exact .inl fun _ => moves_resumeBoard s (by simp [hmode])
  | setDrillBit _ _ life => exact .inl fun _ => moves_elsewhere s (by constructor <;> rfl)
  | setWatch _ _ ms m => exact .inl fun _ => moves_setWatch s ms m
  | readEvents _ _ n => exact .inl fun _ => (Move.dropNotices s n).moves
  | leadEdge => exact .inl fun _ => moves_leadEdge s
  | frontLay _ _ lay => exact .inl fun _ => moves_frontLay s lay
  | gauge _ _ ok g => exact .inl fun _ => moves_gauge s ok g
  | markRead _ _ ok m => exact .inl fun _ => moves_markRead s ok m
  | caliperDone _ _ um => exact .inl fun _ => moves_caliperDone s um
  | advanceDone => exact .inl fun _ => moves_advanceDone s
  | holeDone => exact .inl fun _ => moves_holeDone s
  | resumeMark => exact .inl fun _ => moves_elsewhere s (by constructor <;> rfl)
  | feedExpiry => exact .inl fun _ => moves_feedExpiry s
  | closeDone => exact .inl fun _ => moves_closeDone s
  | closeExpiry => exact .inl fun _ => moves_closeExpiry s
  | contactCloses => exact .inl fun _ => moves_contactCloses s
  | contactOpens => exact .inl fun _ => moves_contactOpens s
  | readComplete _ _ fetched => exact .inl fun _ => moves_readComplete s fetched
  | watchExpiry => exact .inl fun _ => moves_watchExpiry s

theorem Act.moves {c : Instr} {s t : State} (h : Act c s t) : Moves .punching s t := by
  obtain h | h | ⟨ready, -, rfl⟩ := h.moves_or
  · exact h _
  · exact h.moves (by decide)
  · exact moves_encPulse s rfl ready

/-- A law that a restart brings about, that says nothing of the queue, the link and the outputs, and that every move
keeps, is kept by every step. -/
theorem step_keeps_of_moves {P : State → Prop} (hrestart : ∀ s t, Restarted s t → P t)
    (hset : ∀ s p o l, P s → P { s with pending := p, out := o, link := l })
    (hmove : ∀ s t, Move .punching s t → P s → P t) (s t : State) (hs : P s) (h : step s = .next t) : P t := by
  refine step_keeps hrestart ?_ (fun s p hs => hset s p s.out s.link hs) (fun s l hs => hset s s.pending s.out l hs)
    (fun c s t hact => Moves.keeps hmove hact.moves) s t hs h
  intro s l line hline hs
  have hquiet : P { s with out := [], link := l } := hset s s.pending [] l hs
  obtain rfl | rfl := hline
  · exact hquiet
  · exact Moves.keeps hmove (moves_goodFrameLine { s with out := [], link := l }) hquiet

end Sys2Proof.Machine
end

section
/-! PROOFS. Laws 8 and 9: the event queue with ATTN (R158), and the link error count with its first-error code (R170). -/

namespace Sys2Proof.Machine

open Sys2Proof.Safety

/-! ### The event queue -/

/-- At most 32 entries, and ATTN exactly when there is one (R158). -/
def Notices.Kept (n : Notices) : Prop := n.queue.length ≤ 32 ∧ (n.attn = true ↔ n.queue ≠ [])

theorem State.push_notices_kept (s : State) (e : Event) (h : s.notices.Kept) : (s.push e).notices.Kept := by
  obtain ⟨hlen, hne⟩ := enter_length s.notices.queue e h.1
  exact ⟨hlen, by simpa [State.push] using hne⟩

theorem Notices.drop_kept (n : Notices) (max : Nat) (h : n.Kept) : (n.drop max).Kept := by
  obtain ⟨hlen, hattn⟩ := h
  refine ⟨by simp [Notices.drop]; omega, ?_⟩
  rw [Notices.drop_eq]
  by_cases hempty : n.queue.drop max = []
  · simp [hempty]
  · have hne : n.queue ≠ [] := fun hq => hempty (by simp [hq])
    simp [hempty, hattn.mpr hne]

theorem State.lineTo_notices_kept (s : State) (m : Mode) (h : s.notices.Kept) : (s.lineTo m).notices.Kept := by
  unfold State.lineTo
  split
  · exact h
  · exact State.push_notices_kept _ _ h

theorem SpoilMove.notices_kept {r : Rank} {s t : State} (h : SpoilMove r s t) (hs : s.notices.Kept) :
    t.notices.Kept := by
  cases h with
  | elsewhere _ halike => exact halike.notices ▸ hs
  | note e => exact State.push_notices_kept s e hs
  | emit | emitCut | sweep | markSpoiled | condemn | drillOn | finishBoard | dumpTray | idleFeeder | serve => exact hs

theorem State.judgeDrainEnd_notices_kept (s : State) (h : s.notices.Kept) : s.judgeDrainEnd.notices.Kept := by
  unfold State.judgeDrainEnd
  split
  · simpa using State.lineTo_notices_kept s .ready h
  · exact h

theorem State.halt_notices_kept (s : State) (c : HaltCause) (h : s.notices.Kept) : (s.halt c).notices.Kept := by
  unfold State.halt
  split
  · exact State.push_notices_kept _ _ h
  · exact State.push_notices_kept _ _ (State.push_notices_kept _ _ (by simpa using h))

theorem State.mount_notices_kept (s : State) (d : DieRecord) (h : s.notices.Kept) : (s.mount d).notices.Kept := by
  unfold State.mount
  dsimp only
  split
  · exact State.lineTo_notices_kept _ _ (State.push_notices_kept _ _ h)
  · exact State.push_notices_kept _ _ h

theorem State.contactOpens_notices_kept (s : State) (h : s.notices.Kept) : s.contactOpens.notices.Kept := by
  unfold State.contactOpens
  dsimp only
  split
  · unfold State.dieGone
    split
    · exact State.lineTo_notices_kept _ _ (State.push_notices_kept _ _ h)
    · exact State.push_notices_kept _ _ h
    · exact State.halt_notices_kept _ _ (State.push_notices_kept _ _ h)
  · exact h

/-- The spoils of a purge are chains of the moves of a spoil. -/
theorem spoilMoves_purge {r : Rank} (hr : r ≠ .plain) (l : List Nat) :
    ∀ t : State, SpoilMoves r t (l.foldl (fun t id => t.spoil id .purged 0 0) t) := by
  induction l with
  | nil => exact fun _ => .refl
  | cons id l ih => exact fun t => .trans (spoilMoves_spoil t hr id .purged 0 0) (ih _)

theorem State.stopLine_notices_kept (s : State) (h : s.notices.Kept) : s.stopLine.notices.Kept := by
  refine State.lineTo_notices_kept _ _ ?_
  have hpurge := SpoilMoves.keeps (r := .cutting) (P := fun t => t.notices.Kept) (fun _ _ => SpoilMove.notices_kept)
    (spoilMoves_purge (by simp) s.purged (s.stopBlocks.setCloser s.closer.stopped)) (by simpa using h)
  simpa using hpurge

theorem Move.notices_kept {r : Rank} {s t : State} (h : Move r s t) (hs : s.notices.Kept) : t.notices.Kept := by
  cases h with
  | inner _ hinner => exact hinner.notices_kept hs
  | dropNotices n => exact Notices.drop_kept _ n hs
  | judgeDrainEnd => exact State.judgeDrainEnd_notices_kept s hs
  | toDraining => exact State.lineTo_notices_kept _ _ hs
  | halt c => exact State.halt_notices_kept s c hs
  | startRun => exact State.lineTo_notices_kept _ _ hs
  | mount d => exact State.mount_notices_kept s d hs
  | unmount => exact State.contactOpens_notices_kept s hs
  | stop => exact State.stopLine_notices_kept s hs
  | emitFire | setFormat | queueBook | removeQueued | retouch | endPermit | newcomer | toBin | toLane | toDrill | toNotch
  | toPunchRejected | toPunchPlanned | toPunchUnplanned | issue | rejectAtPunch | dump | lay | complete | startClose
  | bind | refeed | watch | count | startCycle | stage => exact hs

/-- Settles O6: every move keeps the queue, and every command the count of the link errors. -/
theorem queueAndErrorsKept : Obligations.QueueAndErrorsKept := by
  unfold Obligations.QueueAndErrorsKept
  intro s t hstep
  refine ⟨fun hs => ?_, fun hs => step_keeps_linkErrors s t hs hstep⟩
  refine step_keeps_of_moves (P := fun s => s.notices.Kept) ?_ (fun _ _ _ _ => id) (fun _ _ => Move.notices_kept) s t hs
    hstep
  intro s t hr
  obtain ⟨-, -, -, -, hnotices, -⟩ := hr.fields
  rw [hnotices]
  exact ⟨by decide, by decide⟩

end Sys2Proof.Machine
end

section
/-! PROOFS. Law 1: the reserved sum of the track (R62, R64). -/

namespace Sys2Proof.Machine

open Sys2Proof.Safety

/-! ### The reserved sum -/

/-- Law 1 with the reservation it rests on, of the track alone. -/
def Track.Reserved (t : Track) : Prop :=
  t.reserved ≤ 6 ∧ (t.permit.isSome = true → t.reg = none ∧ t.reserved ≤ 5)

theorem Option.toList_length_congr {α β : Type} {a b : Option α} (f : α → β) (h : b.map f = a.map f) :
    b.toList.length = a.toList.length := by
  cases a <;> cases b <;> simp_all

theorem Track.Like.reserved_eq {t u : Track} (h : t.Like u) : u.reserved = t.reserved := by
  have hlane : u.lane.length = t.lane.length := by simpa using congrArg List.length h.lane
  simp only [Track.reserved, hlane, Option.toList_length_congr _ h.reg, Option.toList_length_congr _ h.punch,
    Option.toList_length_congr _ h.notch]

theorem Track.Like.reg_none {t u : Track} (h : t.Like u) (hreg : t.reg = none) : u.reg = none := by
  simpa [hreg] using h.reg

theorem Track.Like.reservedKept {t u : Track} (h : t.Like u) (ht : t.Reserved) : u.Reserved := by
  obtain ⟨hsum, hpermit⟩ := ht
  refine ⟨by rw [h.reserved_eq]; exact hsum, fun hp => ?_⟩
  obtain ⟨hreg, hfree⟩ := hpermit (by rwa [h.permit] at hp)
  exact ⟨h.reg_none hreg, by rw [h.reserved_eq]; exact hfree⟩

theorem Track.noPermit_reserved (t : Track) (h : t.Reserved) : t.noPermit.Reserved :=
  ⟨h.1, fun hp => by cases hp⟩

/-- A track that frees a place, or moves a record, and grants no permit. -/
theorem Track.Reserved.of_le {t u : Track} (h : t.Reserved) (hle : u.reserved ≤ t.reserved)
    (hpermit : u.permit = t.permit) (hreg : t.reg = none → u.reg = none) : u.Reserved := by
  obtain ⟨hsum, hp⟩ := h
  refine ⟨by omega, fun hu => ?_⟩
  obtain ⟨hnone, hfree⟩ := hp (by rwa [hpermit] at hu)
  exact ⟨hreg hnone, by omega⟩

/-! ### The moves -/

theorem SpoilMove.reserved {r : Rank} {s t : State} (h : SpoilMove r s t) (hs : s.track.Reserved) :
    t.track.Reserved := by
  cases h with
  | elsewhere _ halike => exact halike.track ▸ hs
  | condemn id =>
    refine hs.of_le (by simp [Track.reserved, Track.condemn, Option.length_toList]) rfl fun hreg => ?_
    simp [Track.condemn, hreg]
  | finishBoard => exact hs.of_le (by simp [State.finishBoard, Track.boardBack, Track.reserved]) rfl id
  | note | emit | emitCut | sweep | markSpoiled | drillOn | dumpTray | idleFeeder | serve => exact hs

theorem State.halt_reserved (s : State) (c : HaltCause) (h : s.track.Reserved) : (s.halt c).track.Reserved := by
  obtain ⟨-, he⟩ | ⟨-, he⟩ := s.halt_cases c
  · rw [he]
    exact h
  · rw [he]
    exact s.track.noPermit_reserved h

/-- A purge finds no record in the track and leaves none. -/
theorem State.spoil_track_cleared (s : State) (id : Nat) (reason : Reason) (q v : Nat)
    (htrack : s.track = Track.cleared) (hboard : s.drill.board = none) :
    (s.spoil id reason q v).track = Track.cleared ∧ (s.spoil id reason q v).drill = s.drill := by
  obtain ⟨-, he⟩ | ⟨b, -, -, he⟩ := s.spoil_cases id reason q v
  · rw [he]
    exact ⟨htrack, rfl⟩
  · have hdrill (u : State) (hu : u.drill.board = none) : u.drillSpoil id = u := by simp [State.drillSpoil, hu]
    rw [he, hdrill _ (by simpa using hboard)]
    simp [htrack, Track.condemn, Track.cleared]

theorem State.purge_track_cleared (l : List Nat) : ∀ s : State, s.track = Track.cleared → s.drill.board = none →
    (l.foldl (fun t id => t.spoil id .purged 0 0) s).track = Track.cleared
    ∧ (l.foldl (fun t id => t.spoil id .purged 0 0) s).drill = s.drill := by
  induction l with
  | nil => exact fun s h _ => ⟨h, rfl⟩
  | cons id l ih =>
    intro s htrack hboard
    obtain ⟨h1, h2⟩ := s.spoil_track_cleared id .purged 0 0 htrack hboard
    obtain ⟨h3, h4⟩ := ih _ h1 (by rw [h2]; exact hboard)
    exact ⟨h3, h4.trans h2⟩

/-- STOP leaves the track and the DRILL station empty (R79, R130). -/
theorem State.stopLine_track (s : State) :
    s.stopLine.track = Track.cleared ∧ s.stopLine.drill = { s.drill.toIdle with resume := none } := by
  obtain ⟨h1, h2⟩ := State.purge_track_cleared s.purged (s.stopBlocks.setCloser s.closer.stopped) rfl rfl
  constructor
  · simpa [State.stopLine] using h1
  · simpa [State.stopLine, State.stopBlocks] using h2

theorem Track.cleared_reserved : Track.cleared.Reserved := ⟨by decide, by decide⟩

theorem Move.reserved {r : Rank} {s t : State} (h : Move r s t) (hs : s.track.Reserved) : t.track.Reserved := by
  cases h with
  | inner _ hinner => exact hinner.reserved hs
  | retouch _ hlike => exact hlike.reservedKept hs
  | endPermit => exact s.track.noPermit_reserved hs
  | halt c => exact s.halt_reserved c hs
  | stop => exact s.stopLine_track.1 ▸ Track.cleared_reserved
  | newcomer p b leaf seq hpermit =>
    obtain ⟨hreg, hfree⟩ := hs.2 (by simp [hpermit])
    refine ⟨?_, fun hp => by cases hp⟩
    simp only [Track.reserved, hreg, Option.toList_none, List.length_nil] at hfree
    simp [Track.reserved, Track.noPermit]
    omega
  | toBin x hx => exact hs.of_le (by simp [Track.reserved]) rfl id
  | toLane x hx => exact hs.of_le (by simp [Track.reserved, State.departLane, hx]; omega) rfl id
  | toDrill x d hx => exact hs.of_le (by simp [Track.reserved, hx]; omega) rfl id
  | toNotch x hx => exact hs.of_le (by simp [Track.reserved, hx]) rfl id
  | toPunchRejected x y hx => exact hs.of_le (by simp [Track.reserved, hx]) rfl fun _ => rfl
  | toPunchPlanned x i body route hx => exact hs.of_le (by simp [Track.reserved, hx]) rfl fun _ => rfl
  | toPunchUnplanned x hx => exact hs.of_le (by simp [Track.reserved, hx]) rfl fun _ => rfl
  | issue b leaf hexpected hadmits =>
    simp only [State.admits, Bool.and_eq_true, decide_eq_true_eq, Option.isNone_iff_eq_none] at hadmits
    obtain ⟨⟨⟨-, hreg⟩, hfree⟩, -⟩ := hadmits
    have hsum : Track.reserved { s.track with
        permit := some { book := b.id, leaf := b.arrived + 1 }, feedPermit := true } ≤ 5 := by
      simp only [Track.reserved, hreg, Option.toList_none, List.length_nil]
      omega
    exact ⟨Nat.le_succ_of_le hsum, fun _ => ⟨hreg, hsum⟩⟩
  | rejectAtPunch x y hx => exact hs.of_le (by simp [Track.reserved, State.setPunch, hx]) rfl id
  | dump e rest hlane => exact hs.of_le (by simp [Track.reserved, Track.popLane, hlane]) rfl id
  | lay e rest b hlane => exact hs.of_le (by simp [Track.reserved, Track.popLane, hlane]) rfl id
  | emitFire | dropNotices | setFormat | queueBook | removeQueued | complete | startClose | bind | refeed | watch | count
  | startCycle | stage => exact hs
  | judgeDrainEnd | toDraining | startRun | mount => simpa using hs
  | unmount d m hiface =>
    unfold State.contactOpens
    simp only [hiface]
    unfold State.dieGone
    split
    · simpa using hs
    · exact hs
    · exact State.halt_reserved _ _ hs

/-- Settles O3: every move keeps the reservation, and a restart empties the track. -/
theorem trackReservedKept : Obligations.TrackReservedKept := by
  unfold Obligations.TrackReservedKept
  intro s t hs hstep
  refine step_keeps_of_moves (P := fun s => s.track.Reserved) ?_ (fun _ _ _ _ => id) (fun _ _ => Move.reserved) s t hs
    hstep
  intro s t hr
  obtain ⟨-, -, -, -, -, -, -, -, -, htrack, -⟩ := hr.fields
  rw [htrack]
  exact ⟨by decide, by decide⟩

end Sys2Proof.Machine
end

section
/-! PROOFS. The line state, the hold, the watch, the halt cause, the die and the profiles stay in agreement (R81, R82, R84,
R87, R100, R149). -/

namespace Sys2Proof.Machine

open Sys2Proof.Safety

/-! ### The line and the die -/

/-- The line agrees with the cycle, the watch and the halt cause, and with the die. -/
structure ModesAgree (s : State) : Prop where
  line : LineAgrees s
  die : DieAgrees s

/-- The agreement looks at the line, the hold with the staged profile, and the die record. -/
theorem ModesAgree.congr {s t : State} (h : ModesAgree s) (hline : t.line = s.line) (hhold : t.cycle.hold = s.cycle.hold)
    (hstaged : t.cycle.staged = s.cycle.staged) (hdie : t.die? = s.die?) : ModesAgree t := by
  obtain ⟨h1, h2⟩ := h
  refine ⟨?_, ?_⟩
  · simpa only [LineAgrees, hline, hhold, hstaged] using h1
  · simpa only [DieAgrees, hline, hdie] using h2

theorem Cycle.activate_staged (c : Cycle) : c.activate.staged = none := by
  unfold Cycle.activate
  split
  · next h => exact h
  · rfl

theorem Cycle.activate_hold (c : Cycle) : c.activate.hold = c.hold := by
  unfold Cycle.activate
  split <;> rfl

theorem Cycle.activate_count (c : Cycle) : c.activate.count = c.count := by
  unfold Cycle.activate
  split <;> rfl

/-- The hold with clear in a line state that is at rest, with no cause and the watch stopped (R87, R153, R155). -/
theorem modesAgree_rested {t : State} (hmode : t.line.mode = .ready ∨ t.line.mode = .noDie)
    (hcause : t.line.haltCause = none) (htimer : t.line.watchTimer = .stopped) (hboundary : t.line.boundary = false)
    (hstaged : t.cycle.staged = none) (hhold : t.cycle.hold = .heldClear)
    (hready : t.line.mode = .ready → t.die?.isSome = true) (hnoDie : t.line.mode = .noDie → t.die? = none) :
    ModesAgree t := by
  refine ⟨?_, ?_, hnoDie⟩
  · obtain hm | hm := hmode <;> simp [LineAgrees, hm, hcause, htimer, hboundary, hstaged, hhold]
  · rintro (hm | hm | hm)
    · exact hready hm
    · simp [hm] at hmode
    · simp [hm] at hmode

/-- Only RUNNING lets the watch run and a boundary drain be PENDING, and only HALTED has a cause. -/
theorem ModesAgree.still {s : State} (h : ModesAgree s) (hmode : s.line.mode ≠ .running)
    (hhalt : s.line.mode ≠ .halted) :
    s.line.haltCause = none ∧ s.line.watchTimer = .stopped ∧ s.line.boundary = false := by
  obtain ⟨-, -, -, htimer, hboundary, hcause⟩ := h.line
  refine ⟨?_, ?_, ?_⟩
  · by_contra hc
    exact hhalt (hcause.mp hc)
  · by_contra ht
    exact hmode (htimer ht)
  · simpa using fun hb => hmode (hboundary hb)

/-- A line that is READY is held with clear (R81, R149). -/
theorem ModesAgree.heldClear {s : State} (h : ModesAgree s) (hmode : s.line.mode = .ready) :
    s.cycle.hold = .heldClear := by
  obtain ⟨hrel, hplace, -⟩ := h.line
  cases hhold : s.cycle.hold with
  | released => simp [hhold, hmode] at hrel
  | heldInPlace => simp [hhold, hmode] at hplace
  | heldClear => rfl

/-- A line to which RUNNING alone lends its watch is RUNNING. -/
theorem ModesAgree.running {s : State} (h : ModesAgree s)
    (hwas : s.line.mode = .running ∨ s.line.boundary = true ∨ s.line.watchTimer ≠ .stopped) : s.line.mode = .running := by
  obtain ⟨-, -, -, htimer, hboundary, -⟩ := h.line
  obtain h | h | h := hwas
  · exact h
  · exact hboundary h
  · exact htimer h

theorem ModesAgree.judgeDrainEnd {s : State} (h : ModesAgree s) : ModesAgree s.judgeDrainEnd := by
  obtain ⟨-, he⟩ | ⟨hmode, -, -, he⟩ := s.judgeDrainEnd_cases
  · rw [he]
    exact h
  obtain ⟨hcause, htimer, hboundary⟩ := h.still (by simp [hmode]) (by simp [hmode])
  have hline : (s.lineTo .ready).line = { s.line with mode := .ready } := by simp [State.lineTo, hmode]
  have hdie : (s.lineTo .ready).holdClear.die? = s.die? := by simp [State.die?]
  have hmode' : (s.lineTo .ready).holdClear.line.mode = .ready := by simp [hline]
  rw [he]
  exact modesAgree_rested (.inl hmode') (by simp [hline, hcause]) (by simp [hline, htimer]) (by simp [hline, hboundary])
    (by simp [State.holdClear, Cycle.activate_staged]) (by simp [State.holdClear])
    (fun _ => hdie ▸ h.die.1 (.inr (.inr hmode))) (fun hn => by rw [hmode'] at hn; cases hn)

theorem ModesAgree.toDraining {s : State} (h : ModesAgree s)
    (hwas : s.line.mode = .running ∨ s.line.boundary = true ∨ s.line.watchTimer ≠ .stopped) :
    ModesAgree (s.stopWatch.lineTo .draining) := by
  have hmode := h.running hwas
  obtain ⟨⟨hrel, -, -, -, -, hcause⟩, hdie⟩ := h
  have hline : (s.stopWatch.lineTo .draining).line =
      { s.line with mode := .draining, watchTimer := .stopped, boundary := false } := by
    simp [State.lineTo, State.stopWatch, hmode]
  have hhold : s.cycle.hold = .released := hrel.mpr (.inl hmode)
  have hnocause : s.line.haltCause = none := by
    by_contra hc
    simp [hmode] at hcause
    exact hc hcause
  refine ⟨?_, ?_⟩
  · simp [LineAgrees, hline, hhold, hnocause]
  · have hd : (s.stopWatch.lineTo .draining).die? = s.die? := by simp [State.die?]
    simp [DieAgrees, hline, hd, hdie.1 (.inr (.inl hmode))]

theorem ModesAgree.halt {s : State} (h : ModesAgree s) (c : HaltCause) : ModesAgree (s.halt c) := by
  obtain ⟨-, he⟩ | ⟨-, he⟩ := s.halt_cases c
  · rw [he]
    exact h.congr rfl rfl rfl rfl
  rw [he]
  exact ⟨by simp [LineAgrees, Cycle.activate_staged], by simp [DieAgrees]⟩

theorem ModesAgree.startRun {s : State} (h : ModesAgree s) (hmode : s.line.mode = .ready) : ModesAgree s.startRun := by
  obtain ⟨hcause, -, -⟩ := h.still (by simp [hmode]) (by simp [hmode])
  have hline : s.startRun.line = Line.startWatch { s.line with mode := .running } := by
    simp [State.startRun, State.lineTo, hmode]
  have hcycle : s.startRun.cycle = { s.cycle with hold := .released } := by simp [State.startRun]
  have hd : s.startRun.die? = s.die? := by simp [State.die?]
  refine ⟨?_, ?_⟩
  · simp [LineAgrees, hline, hcycle, Line.startWatch, hcause]
  · simp [DieAgrees, hline, hd, Line.startWatch, h.die.1 (.inl hmode)]

theorem ModesAgree.watch {s : State} (h : ModesAgree s) (l : Line) (hmode : l.mode = s.line.mode)
    (hcause : l.haltCause = s.line.haltCause)
    (htimer : l.watchTimer ≠ .stopped → s.line.mode = .running ∨ s.line.watchTimer ≠ .stopped)
    (hboundary : l.boundary = true → s.line.boundary = true ∨ s.line.watchTimer ≠ .stopped) :
    ModesAgree (s.setLine l) := by
  obtain ⟨⟨hrel, hplace, hstaged, ht, hb, hc⟩, hdie⟩ := h
  refine ⟨⟨?_, ?_, hstaged, fun hl => ?_, fun hl => ?_, ?_⟩, ?_⟩
  · simpa [hmode] using hrel
  · simpa [hmode] using hplace
  · exact hmode.trans ((htimer hl).elim id ht)
  · exact hmode.trans ((hboundary hl).elim hb ht)
  · simpa [hmode, hcause] using hc
  · have hd : (s.setLine l).die? = s.die? := rfl
    simpa only [DieAgrees, State.setLine_line, hmode, hd] using hdie

theorem ModesAgree.setCycle {s : State} (h : ModesAgree s) (c : Cycle) (hhold : c.hold = s.cycle.hold)
    (hstaged : c.staged ≠ none → c.hold = .released) : ModesAgree (s.setCycle c) := by
  obtain ⟨⟨hrel, hplace, -, hrest⟩, hdie⟩ := h
  exact ⟨⟨by simpa [hhold] using hrel, by simpa [hhold] using hplace, hstaged, hrest⟩, hdie⟩

theorem ModesAgree.stage {s : State} (h : ModesAgree s) (p : Profile) : ModesAgree (s.setCycle (s.cycle.stage p)) := by
  by_cases hhold : s.cycle.hold = .released
  · rw [Cycle.stage_of_released _ _ hhold]
    exact h.setCycle _ rfl fun _ => hhold
  · rw [Cycle.stage_of_held _ _ hhold]
    exact h.setCycle _ rfl fun hs => absurd rfl hs

theorem ModesAgree.mount {s : State} (h : ModesAgree s) (d : DieRecord) (hiface : s.die.iface = .mounting) :
    ModesAgree (s.mount d) := by
  have hnone : s.die? = none := by simp [State.die?, hiface]
  have hdie : (s.mount d).die? = some d := by
    unfold State.mount
    dsimp only
    split <;> simp [State.die?]
  obtain ⟨hdieLine, -⟩ := h.die
  have hrest : ¬ (s.line.mode = .ready ∨ s.line.mode = .running ∨ s.line.mode = .draining) := by
    intro hm
    simpa [hnone] using hdieLine hm
  have hmode : s.line.mode = .noDie ∨ s.line.mode = .halted := by
    cases hm : s.line.mode <;> simp_all
  obtain ⟨⟨hrel, hplace, hstaged, htimer, hboundary, hcause⟩, -⟩ := h
  refine ⟨?_, fun _ => by rw [hdie]; rfl, fun hn => ?_⟩
  · have hline : (s.mount d).line = if s.line.mode = .noDie then { s.line with mode := .ready } else s.line := by
      unfold State.mount State.lineTo
      obtain hm | hm := hmode <;> simp [hm]
    obtain hm | hm := hmode <;> simp_all [LineAgrees]
  · exfalso
    unfold State.mount State.lineTo at hn
    obtain hm | hm := hmode <;> simp [hm] at hn

/-- A move of the line sets its state and nothing else of it. -/
theorem State.lineTo_line (s : State) (m : Mode) : (s.lineTo m).line = { s.line with mode := m } := by
  obtain ⟨hm, h⟩ | ⟨-, h⟩ := s.lineTo_cases m
  · rw [h, ← hm]
  · rw [h]

theorem ModesAgree.unmount {s : State} (h : ModesAgree s) (d : DieRecord) (m : List Pin)
    (hiface : s.die.iface = .mounted d m) : ModesAgree s.contactOpens := by
  have hsome : s.die?.isSome = true := by simp [State.die?, hiface]
  have hnotNoDie : s.line.mode ≠ .noDie := fun hm => by simp [h.die.2 hm] at hsome
  unfold State.contactOpens
  simp only [hiface]
  set u := (s.setDie { s.die with contact := false, iface := .empty }).push (plainEvent .dieRemoved 0 d.n) with hu
  have hline : u.line = s.line := rfl
  have hcycle : u.cycle = s.cycle := rfl
  unfold State.dieGone
  split
  · next hm =>
    obtain ⟨hcause, htimer, hboundary⟩ := h.still (by simp [← hline, hm]) (by simp [← hline, hm])
    have hhold := h.heldClear (hline ▸ hm)
    obtain ⟨-, -, hstaged, -⟩ := h.line
    have hline' : (u.lineTo .noDie).line = { s.line with mode := .noDie } := by rw [State.lineTo_line, hline]
    refine modesAgree_rested (.inr (by rw [hline'])) (by rw [hline']; exact hcause) (by rw [hline']; exact htimer)
      (by rw [hline']; exact hboundary) ?_ (by simpa [hcycle] using hhold) (fun hr => ?_) (fun _ => ?_)
    · by_contra hs
      simpa [hhold] using hstaged (by simpa [hcycle] using hs)
    · rw [hline'] at hr
      cases hr
    · simp [State.die?, hu]
  · next hm => exact absurd hm hnotNoDie
  · -- the halt leaves nothing that the missing die could contradict
    obtain ⟨hm, he⟩ | ⟨-, he⟩ := u.halt_cases .dieRemoved
    · rw [he]
      rw [hline] at hm
      refine ⟨h.line, ?_, fun _ => rfl⟩
      change s.line.mode = _ ∨ s.line.mode = _ ∨ s.line.mode = _ → _
      simp [hm]
    · rw [he]
      exact ⟨by simp [LineAgrees, Cycle.activate_staged], by simp [DieAgrees]⟩

/-- What STOP makes of the line and the cycle (R155). -/
theorem State.stopLine_line_cycle (s : State) :
    s.stopLine.line =
      { s.line with mode := s.restMode, haltCause := none, watchTimer := .stopped, boundary := false }
    ∧ s.stopLine.cycle =
      { s.cycle.activate with
        hold := .heldClear, count := 0, stroke := [], outstanding := false, chain := [] } := by
  constructor
  · simp [State.stopLine, State.lineTo_line, State.stopBlocks, State.stopWatch]
  · simp [State.stopLine, State.stopBlocks, State.holdClear, State.stopWatch]

theorem modesAgree_stop (s : State) : ModesAgree s.stopLine := by
  obtain ⟨hline, hcycle⟩ := s.stopLine_line_cycle
  have hdie : s.stopLine.die? = s.die? := by simp [State.die?]
  have hmode : s.stopLine.line.mode = s.restMode := by rw [hline]
  refine modesAgree_rested ?_ (by rw [hline]) (by rw [hline]) (by rw [hline]) ?_ (by rw [hcycle]) ?_ ?_
  · rw [hmode, State.restMode]
    split <;> simp
  · rw [hcycle]
    exact s.cycle.activate_staged
  · rw [hmode, hdie, State.restMode]
    split <;> simp_all
  · rw [hmode, hdie, State.restMode]
    split <;> simp_all

/-- The moves of a spoil touch neither the line nor what the laws look at of the cycle and the die. -/
theorem SpoilMove.modesAgree {r : Rank} {s t : State} (h : SpoilMove r s t) (hs : ModesAgree s) : ModesAgree t := by
  cases h with
  | elsewhere _ halike => exact hs.congr halike.line halike.hold halike.staged halike.die
  | note | emit | emitCut | sweep | markSpoiled | condemn | drillOn | finishBoard | dumpTray | idleFeeder | serve =>
    exact hs.congr rfl rfl rfl rfl

theorem Move.modesAgree {r : Rank} {s t : State} (h : Move r s t) (hs : ModesAgree s) : ModesAgree t := by
  cases h with
  | inner _ hinner => exact hinner.modesAgree hs
  | judgeDrainEnd => exact hs.judgeDrainEnd
  | toDraining hmode => exact hs.toDraining hmode
  | halt c => exact hs.halt c
  | startRun hmode => exact hs.startRun hmode
  | watch l hmode hcause htimer hboundary => exact hs.watch l hmode hcause htimer hboundary
  | count n hhold hn => exact hs.setCycle _ rfl hs.line.2.2.1
  | startCycle hcount => exact hs.setCycle _ s.cycle.activate_hold fun h => absurd s.cycle.activate_staged h
  | stage p hvalid => exact hs.stage p
  | mount d hiface => exact hs.mount d hiface
  | unmount d m hiface => exact hs.unmount d m hiface
  | stop => exact modesAgree_stop s
  | emitFire | dropNotices | setFormat | queueBook | removeQueued | retouch | endPermit | newcomer | toBin | toLane | toDrill
  | toNotch | toPunchRejected | toPunchPlanned | toPunchUnplanned | issue | rejectAtPunch | dump | lay | complete
  | startClose | bind | refeed => exact hs.congr rfl rfl rfl rfl

theorem Restarted.modesAgree {s t : State} (h : Restarted s t) : ModesAgree t := by
  obtain ⟨hmode, hcause, htimer, hboundary, -, -, -, hdie, -, -, hcycle, -⟩ := h.fields
  exact modesAgree_rested (.inr hmode) hcause htimer hboundary (by simp [hcycle, State.reset])
    (by simp [hcycle, State.reset]) (by simp [hmode]) fun _ => hdie

/-! ### The profiles -/

theorem Profile.lc_pos (p : Profile) (h : p.valid = true) : 0 < p.lc := by
  have := (Profile.valid_iff p).mp h
  omega

/-- A valid profile made active is a valid one, staged or not (R84). -/
theorem Cycle.activate_valid (c : Cycle) (hactive : c.active.valid = true)
    (hstaged : ∀ p, c.staged = some p → p.valid = true) : c.activate.active.valid = true := by
  unfold Cycle.activate
  split
  · exact hactive
  · next p h => exact hstaged p h

/-- The profiles of a cycle whose staged profile was made active, at count 0 or held in place (R84, R87). -/
theorem profilesValid_activated {s t : State} (h : ProfilesValid s) (hactive : t.cycle.active = s.cycle.activate.active)
    (hstaged : t.cycle.staged = none) (hcount : t.cycle.count = 0 ∨ t.cycle.hold = .heldInPlace) : ProfilesValid t := by
  obtain ⟨hvalid, hvalidStaged, -, -⟩ := h
  have hnow : t.cycle.active.valid = true := hactive ▸ s.cycle.activate_valid hvalid hvalidStaged
  refine ⟨hnow, by simp [hstaged], fun hrel => ?_, fun hclear => ?_⟩
  · obtain hc | hc := hcount
    · exact hc ▸ t.cycle.active.lc_pos hnow
    · rw [hc] at hrel
      cases hrel
  · obtain hc | hc := hcount
    · exact hc
    · rw [hc] at hclear
      cases hclear

theorem profilesValid_congr {s t : State} (h : ProfilesValid s) (hhold : t.cycle.hold = s.cycle.hold)
    (hstaged : t.cycle.staged = s.cycle.staged) (hactive : t.cycle.active = s.cycle.active)
    (hcount : t.cycle.count = s.cycle.count) : ProfilesValid t := by
  simpa only [ProfilesValid, hhold, hstaged, hactive, hcount] using h

theorem profilesValid_halt {s : State} (h : ProfilesValid s) (c : HaltCause) : ProfilesValid (s.halt c) := by
  obtain ⟨-, he⟩ | ⟨-, he⟩ := s.halt_cases c
  · rw [he]
    exact h
  · rw [he]
    exact profilesValid_activated h rfl s.cycle.activate_staged (.inr rfl)

/-- A count that stands below the end of the cycle (R81, R82). -/
theorem profilesValid_count {s : State} (h : ProfilesValid s) (n : Nat) (hhold : s.cycle.hold = .released)
    (hn : n = 0 ∨ (n = s.cycle.count + 1 ∧ n ≠ s.cycle.active.lc)) :
    ProfilesValid (s.setCycle { s.cycle with count := n }) := by
  obtain ⟨hvalid, hvalidStaged, hcount, -⟩ := h
  refine ⟨hvalid, hvalidStaged, fun _ => ?_, fun hc => by simp [hhold] at hc⟩
  have hpos := s.cycle.active.lc_pos hvalid
  have hbelow := hcount hhold
  change n < s.cycle.active.lc
  omega

theorem profilesValid_stage {s : State} (h : ProfilesValid s) (p : Profile) (hp : p.valid = true) :
    ProfilesValid (s.setCycle (s.cycle.stage p)) := by
  obtain ⟨hvalid, hvalidStaged, hcount, hclear⟩ := h
  by_cases hhold : s.cycle.hold = .released
  · rw [Cycle.stage_of_released _ _ hhold]
    refine ⟨hvalid, fun q hq => ?_, hcount, hclear⟩
    cases hq
    exact hp
  · rw [Cycle.stage_of_held _ _ hhold]
    exact ⟨hp, (fun q hq => by cases hq), (fun hr => absurd hr hhold), hclear⟩

theorem SpoilMove.profilesValid {r : Rank} {s t : State} (h : SpoilMove r s t) (hs : ProfilesValid s) :
    ProfilesValid t := by
  cases h with
  | elsewhere _ halike => exact profilesValid_congr hs halike.hold halike.staged halike.active halike.count
  | note | emit | emitCut | sweep | markSpoiled | condemn | drillOn | finishBoard | dumpTray | idleFeeder | serve =>
    exact hs

theorem Move.profilesValid {r : Rank} {s t : State} (h : Move r s t) (hmodes : ModesAgree s) (hs : ProfilesValid s) :
    ProfilesValid t := by
  cases h with
  | inner _ hinner => exact hinner.profilesValid hs
  | judgeDrainEnd =>
    obtain ⟨-, he⟩ | ⟨-, -, -, he⟩ := s.judgeDrainEnd_cases
    · rw [he]
      exact hs
    · rw [he]
      exact profilesValid_activated hs (by simp [State.holdClear])
        (by simp [State.holdClear, Cycle.activate_staged]) (.inl (by simp [State.holdClear]))
  | halt c => exact profilesValid_halt hs c
  | startRun hmode =>
    obtain ⟨hvalid, hvalidStaged, -, hclear⟩ := hs
    have hcycle : s.startRun.cycle = { s.cycle with hold := .released } := by simp [State.startRun]
    simp only [ProfilesValid, hcycle, hclear (hmodes.heldClear hmode)]
    exact ⟨hvalid, hvalidStaged, fun _ => s.cycle.active.lc_pos hvalid, fun hh => by cases hh⟩
  | count n hhold hn => exact profilesValid_count hs n hhold hn
  | startCycle hcount =>
    exact profilesValid_activated hs rfl s.cycle.activate_staged (.inl (s.cycle.activate_count.trans hcount))
  | stage p hvalid => exact profilesValid_stage hs p hvalid
  | unmount d m hiface =>
    unfold State.contactOpens
    simp only [hiface]
    unfold State.dieGone
    split
    · simpa [ProfilesValid] using hs
    · exact hs
    · exact profilesValid_halt (by exact hs) _
  | stop =>
    obtain ⟨-, hcycle⟩ := s.stopLine_line_cycle
    exact profilesValid_activated hs (by rw [hcycle]) (by rw [hcycle]; exact s.cycle.activate_staged)
      (.inl (by rw [hcycle]))
  | toDraining | mount => simpa [ProfilesValid] using hs
  | watch | emitFire | dropNotices | setFormat | queueBook | removeQueued | retouch | endPermit | newcomer | toBin | toLane
  | toDrill | toNotch | toPunchRejected | toPunchPlanned | toPunchUnplanned | issue | rejectAtPunch | dump | lay
  | complete | startClose | bind | refeed => exact hs

theorem Restarted.profilesValid {s t : State} (h : Restarted s t) : ProfilesValid t := by
  obtain ⟨-, -, -, -, -, -, -, -, -, -, hcycle, -⟩ := h.fields
  rw [ProfilesValid, hcycle]
  exact ⟨by decide, by simp [State.reset], by decide, by decide⟩

/-- Settles O7: every move keeps the agreement, and a restart brings it about. -/
theorem modesAgreeKept : Obligations.ModesAgreeKept := by
  unfold Obligations.ModesAgreeKept
  intro s t hline hdie hprofiles hstep
  obtain ⟨⟨hline', hdie'⟩, hprofiles'⟩ := step_keeps_of_moves (P := fun s => ModesAgree s ∧ ProfilesValid s)
    (fun _ _ h => ⟨h.modesAgree, h.profilesValid⟩) (fun _ _ _ _ h => ⟨h.1.congr rfl rfl rfl rfl, h.2⟩)
    (fun _ _ hmove h => ⟨hmove.modesAgree h.1, hmove.profilesValid h.1 h.2⟩) s t ⟨⟨hline, hdie⟩, hprofiles⟩ hstep
  exact ⟨hline', hdie', hprofiles'⟩

end Sys2Proof.Machine
end

section
/-! PROOFS. Law 3, its first part: at most 16 book records, with distinct ids (R3). -/

namespace Sys2Proof.Machine

open Sys2Proof.Safety

/-! ### Book records by their ids -/

/-- The ids of at most 16 book records, all distinct and none 0 (R3). -/
def IdsDistinct (ids : List Nat) : Prop := ids.length ≤ 16 ∧ ids.Nodup ∧ ∀ id ∈ ids, id ≠ 0

theorem booksDistinct_iff (s : State) : BooksDistinct s ↔ IdsDistinct (s.books.map (·.id)) := by
  simp [BooksDistinct, IdsDistinct]

theorem IdsDistinct.sublist {a b : List Nat} (h : IdsDistinct b) (hab : a.Sublist b) : IdsDistinct a := by
  obtain ⟨hlen, hnodup, hzero⟩ := h
  exact ⟨hab.length_le.trans hlen, hnodup.sublist hab, fun id hid => hzero id (hab.subset hid)⟩

theorem State.sweep_ids (s : State) : (s.sweep.books.map (·.id)).Sublist (s.books.map (·.id)) :=
  List.filter_sublist.map _

/-- One book's record is changed where it stands. -/
def changeBook (id : Nat) (f : Book → Book) (books : List Book) : List Book :=
  books.map fun b => if b.id = id then f b else b

theorem State.updateBook_books (s : State) (id : Nat) (f : Book → Book) :
    (s.updateBook id f).books = changeBook id f s.books := rfl

theorem changeBook_ids (id : Nat) (f : Book → Book) (books : List Book) (hf : ∀ b, (f b).id = b.id) :
    (changeBook id f books).map (·.id) = books.map (·.id) := by
  rw [changeBook, List.map_map]
  refine List.map_congr_left fun b _ => ?_
  simp only [Function.comp_apply]
  split
  · exact hf b
  · rfl

theorem mem_changeBook {id : Nat} {f : Book → Book} {books : List Book} {x : Book} (h : x ∈ changeBook id f books) :
    ∃ b ∈ books, x = if b.id = id then f b else b := by
  obtain ⟨b, hb, rfl⟩ := List.mem_map.mp h
  exact ⟨b, hb, rfl⟩

/-- A record found by its id is found again after a change that leaves the ids. -/
theorem exists_changeBook {id i : Nat} {f : Book → Book} {books : List Book} {P Q : Book → Prop}
    (hf : ∀ b, (f b).id = b.id) (hPQ : ∀ b ∈ books, P b → Q (if b.id = id then f b else b))
    (h : ∃ b ∈ books, b.id = i ∧ P b) : ∃ b ∈ changeBook id f books, b.id = i ∧ Q b := by
  obtain ⟨b, hb, hi, hP⟩ := h
  refine ⟨_, List.mem_map_of_mem hb, ?_, hPQ b hb hP⟩
  split
  · exact (hf b).trans hi
  · exact hi

/-- A record found by its id is found again among those that are kept. -/
theorem exists_filter {i : Nat} {keep : Book → Bool} {books : List Book} {P : Book → Prop}
    (hkeep : ∀ b ∈ books, b.id = i → keep b = true) (h : ∃ b ∈ books, b.id = i ∧ P b) :
    ∃ b ∈ books.filter keep, b.id = i ∧ P b := by
  obtain ⟨b, hb, hi, hP⟩ := h
  exact ⟨b, List.mem_filter.mpr ⟨hb, hkeep b hb hi⟩, hi, hP⟩

theorem Book.arrive_id (b : Book) : b.arrive.id = b.id := by
  unfold Book.arrive
  dsimp only
  split <;> rfl

theorem State.halt_ids (s : State) (c : HaltCause) : ((s.halt c).books.map (·.id)).Sublist (s.books.map (·.id)) := by
  obtain ⟨-, he⟩ | ⟨-, he⟩ := s.halt_cases c
  · rw [he]
    exact List.Sublist.refl _
  · rw [he]
    exact State.sweep_ids _

/-- Records held together are told apart by their ids. -/
theorem IdsDistinct.eq {books : List Book} (h : IdsDistinct (books.map (·.id))) {a b : Book} (ha : a ∈ books)
    (hb : b ∈ books) (hid : a.id = b.id) : a = b :=
  List.inj_on_of_nodup_map h.2.1 ha hb hid

theorem IdsDistinct.book? {s : State} (h : IdsDistinct (s.books.map (·.id))) {b : Book} (hb : b ∈ s.books) :
    s.book? b.id = some b := by
  cases hfind : s.book? b.id with
  | none => simpa using List.find?_eq_none.mp hfind b hb
  | some c => rw [h.eq (State.mem_of_book? hfind) hb (State.book?_id hfind)]

/-! ### What the moves do to the ids -/

theorem SpoilMove.ids {r : Rank} {s t : State} (h : SpoilMove r s t) :
    (t.books.map (·.id)).Sublist (s.books.map (·.id)) := by
  cases h with
  | elsewhere _ halike => rw [halike.books]
  | sweep => exact s.sweep_ids
  | markSpoiled id reason =>
    rw [State.updateBook_books, changeBook_ids]
    exact fun _ => rfl
  | dumpTray id =>
    rw [State.setTray_books, State.updateBook_books, changeBook_ids]
    exact fun _ => rfl
  | note | emit | emitCut | condemn | drillOn | finishBoard | idleFeeder | serve => exact List.Sublist.refl _

theorem SpoilMoves.ids {r : Rank} {s t : State} (h : SpoilMoves r s t) :
    (t.books.map (·.id)).Sublist (s.books.map (·.id)) :=
  h.keeps (P := fun u => (u.books.map (·.id)).Sublist (s.books.map (·.id))) (fun _ _ hm hu => hm.ids.trans hu)
    (List.Sublist.refl _)

theorem spoilMoves_purges {r : Rank} (hr : r ≠ .plain) (l : List Nat) :
    ∀ s : State, SpoilMoves r s (l.foldl (fun t id => t.spoil id .purged 0 0) s) := by
  induction l with
  | nil => exact fun _ => .refl
  | cons id l ih => exact fun s => .trans (spoilMoves_spoil s hr id _ _ _) (ih _)

theorem State.stopLine_ids (s : State) : (s.stopLine.books.map (·.id)).Sublist (s.books.map (·.id)) := by
  have hpurge := (spoilMoves_purges (r := .cutting) (by decide) s.purged (s.stopBlocks.setCloser s.closer.stopped)).ids
  have hbooks : (s.stopBlocks.setCloser s.closer.stopped).books = s.books := by simp
  rw [hbooks] at hpurge
  refine List.Sublist.trans ?_ hpurge
  rw [State.stopLine]
  simp only [State.lineTo_frame]
  exact State.sweep_ids _

theorem Move.idsDistinct {r : Rank} {s t : State} (h : Move r s t) (hs : IdsDistinct (s.books.map (·.id))) :
    IdsDistinct (t.books.map (·.id)) := by
  cases h with
  | inner _ hinner => exact hs.sublist hinner.ids
  | queueBook id slot hanger leaves hroom hid hnew =>
    obtain ⟨-, hnodup, hzero⟩ := hs
    have hfresh : id ∉ s.books.map (·.id) := by
      simpa [State.book?] using hnew
    refine ⟨by simpa using hroom, ?_, ?_⟩
    · simpa [newBook, List.nodup_append] using ⟨hnodup, fun b hb h => hfresh (h ▸ List.mem_map_of_mem hb)⟩
    · simpa [newBook, or_imp, forall_and] using ⟨by simpa using hzero, hid⟩
  | removeQueued id | bind id => exact hs.sublist (List.filter_sublist.map _)
  | newcomer p b leaf seq =>
    rw [State.updateBook_books, changeBook_ids _ _ _ Book.arrive_id]
    exact hs
  | toBin x | toPunchPlanned x | dump e | lay e | complete id | startClose id =>
    rw [← changeBook_ids _ _ s.books] at hs
    exact hs
    exact fun _ => rfl
  | halt c => exact hs.sublist (s.halt_ids c)
  | unmount d m hiface =>
    unfold State.contactOpens
    simp only [hiface]
    unfold State.dieGone
    split
    · simpa using hs
    · exact hs
    · exact hs.sublist (State.halt_ids _ _)
  | stop => exact hs.sublist s.stopLine_ids
  | judgeDrainEnd | toDraining | startRun | mount => simpa using hs
  | emitFire | dropNotices | setFormat | retouch | endPermit | toLane | toDrill | toNotch | toPunchRejected
  | toPunchUnplanned | issue | rejectAtPunch | refeed | watch | count | startCycle | stage => exact hs

/-- Law 3, its first part: every step keeps the book records apart. -/
theorem step_keeps_booksDistinct (s t : State) (hs : BooksDistinct s) (h : step s = .next t) : BooksDistinct t := by
  rw [booksDistinct_iff] at hs ⊢
  refine step_keeps_of_moves (P := fun s => IdsDistinct (s.books.map (·.id))) ?_ (fun _ _ _ _ => id)
    (fun _ _ => Move.idsDistinct) s t hs h
  intro s t hr
  obtain ⟨-, -, -, -, -, -, hbooks, -⟩ := hr.fields
  rw [hbooks]
  exact ⟨by decide, by decide, by decide⟩

end Sys2Proof.Machine
end

section
/-! PROOFS. Law 4: each arrived sheet is counted once at most (R4). -/

namespace Sys2Proof.Machine

open Sys2Proof.Safety

/-! ### The account of the sheets -/

/-- The books of the sheets in the track. -/
def Track.books (t : Track) : List Nat := t.sheets.map (·.book)

/-- The counters of a record that has `n` sheets in the track (R4). -/
def Book.Counts (b : Book) (n : Nat) : Prop :=
  n + b.stacked + b.dumped + b.rejected ≤ b.arrived ∧ b.arrived ≤ b.leaves.length ∧ 2 ≤ b.leaves.length
    ∧ (b.state = .queued → b.arrived = 0)

/-- A held book has all its leaves stacked. -/
def AllStacked (books : List Book) (id : Nat) : Prop := ∃ b ∈ books, b.id = id ∧ b.stacked = b.leaves.length

/-- The account of law 4 over the records, the books of the sheets in the track, the tray and the book being closed. -/
structure Accounted (books : List Book) (track : List Nat) (tray : Tray) (closing : Option Nat) : Prop where
  ids : IdsDistinct (books.map (·.id))
  counts : ∀ b ∈ books, b.Counts (track.count b.id)
  held : ∀ id ∈ track, ∃ b ∈ books, b.id = id ∧ True
  complete : ∀ id, tray = .complete id → AllStacked books id
  closing : ∀ id, closing = some id → tray.book? ≠ some id ∧ AllStacked books id

theorem sheetsAccounted_iff (s : State) :
    SheetsAccounted s ↔ Accounted s.books s.track.books s.tray s.closer.mode.book? := by
  have hcount (id : Nat) : s.track.books.count id = inTrack s id := by
    simp [Track.books, inTrack, List.count, List.countP_map, Function.comp_def]
  have hheld : (∀ id ∈ s.track.books, ∃ b ∈ s.books, b.id = id ∧ True)
      ↔ ∀ x ∈ s.track.sheets, ∃ b ∈ s.books, b.id = x.book := by
    simp [Track.books]
  constructor
  · rintro ⟨hids, hcounts, hsheets, htray, hclosing⟩
    exact ⟨(booksDistinct_iff s).mp hids, fun b hb => by rw [Book.Counts, hcount]; exact hcounts b hb,
      hheld.mpr hsheets, htray, hclosing⟩
  · rintro ⟨hids, hcounts, hsheets, htray, hclosing⟩
    refine ⟨(booksDistinct_iff s).mpr hids, fun b hb => ?_, hheld.mp hsheets, htray, hclosing⟩
    have hb := hcounts b hb
    rwa [Book.Counts, hcount] at hb

section
variable {books : List Book} {track : List Nat} {tray : Tray} {closing : Option Nat}

theorem Book.Counts.mono {b : Book} {m n : Nat} (h : b.Counts n) (hmn : m ≤ n) : b.Counts m := by
  obtain ⟨hsum, hrest⟩ := h
  exact ⟨by omega, hrest⟩

/-- A book with all its leaves stacked has no sheet in the track. -/
theorem Accounted.not_mem_of_allStacked (h : Accounted books track tray closing) {id : Nat} (hid : AllStacked books id) :
    id ∉ track := by
  obtain ⟨b, hb, rfl, hfull⟩ := hid
  obtain ⟨hsum, hle, -, -⟩ := h.counts b hb
  intro hmem
  have hpos := List.count_pos_iff.mpr hmem
  omega

/-- Sheets that leave the track, with no more in the tray and the Closer than before. -/
theorem Accounted.mono (h : Accounted books track tray closing) {track' : List Nat} (htrack : track'.Subperm track) :
    Accounted books track' tray closing := by
  refine ⟨h.ids, fun b hb => ?_, fun id hid => h.held id (htrack.subset hid), h.complete, h.closing⟩
  exact (h.counts b hb).mono (htrack.count_le b.id)

/-- One record is changed, and only its own sheets in the track may grow: its counters must agree again. A book that the
tray holds complete or that is being closed keeps its stack. -/
theorem Accounted.change (h : Accounted books track tray closing) (id : Nat) (f : Book → Book) {track' : List Nat}
    (hid : ∀ b, (f b).id = b.id) (hleaves : ∀ b, (f b).leaves = b.leaves)
    (hstacked : (∀ b, (f b).stacked = b.stacked) ∨ (tray ≠ .complete id ∧ closing ≠ some id))
    (hother : ∀ i, i ≠ id → track'.count i ≤ track.count i) (hheld : id ∈ track' → ∃ b ∈ books, b.id = id ∧ True)
    (hcounts : ∀ b ∈ books, b.id = id → b.Counts (track.count id) → (f b).Counts (track'.count id)) :
    Accounted (changeBook id f books) track' tray closing := by
  have hfull (i : Nat) (hi : tray = .complete i ∨ closing = some i) (hb : AllStacked books i) :
      AllStacked (changeBook id f books) i := by
    obtain hsame | ⟨htray, hclosing⟩ := hstacked
    · refine exists_changeBook hid (fun b _ hb => ?_) hb
      split
      · rw [hsame, hleaves]
        exact hb
      · exact hb
    · obtain ⟨b, hb, rfl, hfull⟩ := hb
      have hne : b.id ≠ id := by
        rintro rfl
        exact hi.elim htray hclosing
      exact ⟨b, List.mem_map.mpr ⟨b, hb, if_neg hne⟩, rfl, hfull⟩
  refine ⟨by rw [changeBook_ids _ _ _ hid]; exact h.ids, fun x hx => ?_, fun i hi => ?_,
    fun i hi => hfull i (.inl hi) (h.complete i hi),
    fun i hi => ⟨(h.closing i hi).1, hfull i (.inr hi) (h.closing i hi).2⟩⟩
  · obtain ⟨b, hb, rfl⟩ := mem_changeBook hx
    split
    · next hbid =>
      rw [hid, hbid]
      exact hcounts b hb hbid (hbid ▸ h.counts b hb)
    · next hbid => exact (h.counts b hb).mono (hother b.id hbid)
  · refine exists_changeBook (P := fun _ => True) hid (fun _ _ _ => trivial) ?_
    by_cases hii : i = id
    · exact hii ▸ hheld (hii ▸ hi)
    · refine h.held i (List.count_pos_iff.mp ?_)
      have hpos := List.count_pos_iff.mpr hi
      have hle := hother i hii
      omega

/-- One record is changed in nothing but what its counters allow. -/
theorem Accounted.changeState (h : Accounted books track tray closing) (id : Nat) (f : Book → Book)
    (hid : ∀ b, (f b).id = b.id) (hleaves : ∀ b, (f b).leaves = b.leaves) (hstacked : ∀ b, (f b).stacked = b.stacked)
    (hcounts : ∀ b n, b.Counts n → (f b).Counts n) : Accounted (changeBook id f books) track tray closing :=
  h.change id f hid hleaves (.inl hstacked) (fun _ _ => Nat.le_refl _) (h.held id) fun b _ _ => hcounts b _

/-- Records go that neither a sheet in the track nor a complete tray nor the Closer holds. -/
theorem Accounted.keep (h : Accounted books track tray closing) (keep : Book → Bool) {closing' : Option Nat}
    (hclosing : ∀ id, closing' = some id → closing = some id)
    (hkeep : ∀ b ∈ books, b.id ∈ track ∨ tray = .complete b.id ∨ closing' = some b.id → keep b = true) :
    Accounted (books.filter keep) track tray closing' := by
  refine ⟨h.ids.sublist (List.filter_sublist.map _), fun b hb => h.counts b (List.mem_filter.mp hb).1, fun id hid => ?_,
    fun id hid => ?_, fun id hid => ⟨(h.closing id (hclosing id hid)).1, ?_⟩⟩
  · exact exists_filter (fun b hb he => hkeep b hb (.inl (he ▸ hid))) (h.held id hid)
  · exact exists_filter (fun b hb he => hkeep b hb (.inr (.inl (he ▸ hid)))) (h.complete id hid)
  · exact exists_filter (fun b hb he => hkeep b hb (.inr (.inr (he ▸ hid)))) (h.closing id (hclosing id hid)).2

/-- The tray changes to one that holds no complete book, and none that is being closed. -/
theorem Accounted.retray (h : Accounted books track tray closing) {tray' : Tray}
    (hcomplete : ∀ id, tray' = .complete id → AllStacked books id)
    (hbook : ∀ id, tray'.book? = some id → closing ≠ some id) : Accounted books track tray' closing :=
  ⟨h.ids, h.counts, h.held, hcomplete, fun id hid => ⟨fun ht => hbook id ht hid, (h.closing id hid).2⟩⟩

end

/-! ### The track in its books -/

theorem Track.books_eq (t : Track) :
    t.books = t.reg.toList.map (·.book) ++ t.punch.toList.map (·.book) ++ t.notch.toList.map (·.book)
      ++ t.lane.map (·.sheet.book) := by
  simp [Track.books, Track.sheets, List.map_append]

theorem Option.map_toList_congr {α β γ : Type} {a b : Option α} (f : α → β) (g : β → γ) (h : b.map f = a.map f) :
    b.toList.map (g ∘ f) = a.toList.map (g ∘ f) := by
  cases a <;> cases b <;> simp_all

theorem Track.Like.books {t u : Track} (h : t.Like u) : u.books = t.books := by
  have hlane : u.lane.map (·.sheet.book) = t.lane.map (·.sheet.book) := by
    have := congrArg (List.map fun g => g.1.2.1) h.lane
    simpa only [List.map_map, Function.comp_def, LaneEntry.gist, Sheet.gist] using this
  have hplace {a b : Option Sheet} (he : b.map Sheet.gist = a.map Sheet.gist) :
      b.toList.map (·.book) = a.toList.map (·.book) := Option.map_toList_congr Sheet.gist (fun g => g.2.1) he
  rw [Track.books_eq, Track.books_eq, hplace h.reg, hplace h.punch, hplace h.notch, hlane]

theorem Sheet.condemnFor_book (id : Nat) (x : Sheet) : (Sheet.condemnFor id x).book = x.book := by
  unfold Sheet.condemnFor Sheet.condemn
  split
  · split <;> rfl
  · rfl

theorem Track.condemn_books (t : Track) (id : Nat) : (t.condemn id).books = t.books := by
  have hplace (a : Option Sheet) :
      (a.map (Sheet.condemnFor id)).toList.map (·.book) = a.toList.map (·.book) := by
    cases a <;> simp [Sheet.condemnFor_book]
  rw [Track.books_eq, Track.books_eq, Track.condemn]
  simp only [hplace]

theorem Track.boardBack_books (t : Track) : t.boardBack.books = t.books := by
  simp [Track.books_eq, Track.boardBack, Function.comp_def]

/-! ### The moves of a spoil -/

/-- The account of a state (law 4). -/
abbrev State.Accounted (s : State) : Prop := Machine.Accounted s.books s.track.books s.tray s.closer.mode.book?

theorem Book.Counts.spoil {b : Book} {n : Nat} (h : b.Counts n) (reason : Reason) : (Book.spoil reason b).Counts n := by
  obtain ⟨hsum, hle, htwo, -⟩ := h
  exact ⟨hsum, hle, htwo, fun hq => by cases hq⟩

theorem State.mem_track_books {s : State} {id : Nat} : id ∈ s.track.books ↔ s.track.holdsBook id = true := by
  simp [Track.books, Track.holdsBook]

theorem Tray.book?_complete (id : Nat) : (Tray.complete id).book? = some id := rfl

/-- A sweep takes no record that the account needs (R19). -/
theorem State.Accounted.sweep {s : State} (h : s.Accounted) : s.sweep.Accounted := by
  refine h.keep _ (fun _ => id) fun b _ hb => ?_
  obtain hb | hb | hb := hb
  · simp [State.removable, State.mem_track_books.mp hb]
  · simp [State.removable, hb, Tray.book?_complete]
  · have hb : s.closer.mode.book? = some b.id := hb
    simp [State.removable, hb]

/-- The dump of the tray's stack (R137). -/
theorem State.Accounted.dumpTray {s : State} (h : s.Accounted) (id : Nat) (htray : s.tray.book? = some id) :
    ((s.updateBook id Book.dumpStack).setTray .empty).Accounted := by
  have hempty : Machine.Accounted s.books s.track.books .empty s.closer.mode.book? :=
    h.retray (fun _ he => by cases he) (fun _ he => by cases he)
  have hnot : s.closer.mode.book? ≠ some id := fun hc => (h.closing id hc).1 htray
  refine hempty.change (track' := s.track.books) id Book.dumpStack (fun _ => rfl) (fun _ => rfl)
    (.inr ⟨(fun he => by cases he), hnot⟩) (fun _ _ => Nat.le_refl _) (h.held id) fun b _ _ hb => ?_
  obtain ⟨hsum, hrest⟩ := hb
  exact ⟨by simp only [Book.dumpStack]; omega, hrest⟩

theorem SpoilMove.accounted {r : Rank} {s t : State} (h : SpoilMove r s t) (hs : s.Accounted) : t.Accounted := by
  cases h with
  | elsewhere _ halike =>
    rw [State.Accounted, halike.books, halike.track, halike.tray, halike.closing]
    exact hs
  | sweep => exact hs.sweep
  | markSpoiled id reason =>
    exact hs.changeState id _ (fun _ => rfl) (fun _ => rfl) (fun _ => rfl) fun b n hb => hb.spoil reason
  | condemn id =>
    rw [State.Accounted, State.setTrack_track, Track.condemn_books]
    exact hs
  | finishBoard =>
    have hbooks : s.finishBoard.track.books = s.track.books := s.track.boardBack_books
    rw [State.Accounted, hbooks]
    exact hs
  | dumpTray id htray => exact hs.dumpTray id htray
  | note | emit | emitCut | drillOn | idleFeeder | serve => exact hs

/-! ### The moves of the track -/

theorem Book.Counts.arrive {b : Book} {m n : Nat} (h : b.Counts m) (hmn : n ≤ m + 1) (hroom : b.arrived < b.leaves.length) :
    b.arrive.Counts n := by
  obtain ⟨hsum, -, htwo, -⟩ := h
  unfold Book.arrive
  cases hstate : b.state with
  | queued | feeding =>
    refine ⟨by dsimp only; omega, by dsimp only; omega, htwo, ?_⟩
    dsimp only
    split <;> simp
  | fed | stacked | closing | spoiled =>
    refine ⟨by dsimp only; omega, by dsimp only; omega, htwo, ?_⟩
    simp

theorem Book.arrive_leaves (b : Book) : b.arrive.leaves = b.leaves := by
  unfold Book.arrive
  dsimp only
  split <;> rfl

theorem Book.arrive_stacked (b : Book) : b.arrive.stacked = b.stacked := by
  unfold Book.arrive
  dsimp only
  split <;> rfl

/-- The arrival of a leaf: one more sheet in the track and one more counted (R13, R45). -/
theorem State.Accounted.newcomer {s : State} (h : s.Accounted) (b : Book) (leaf : Leaf) (x : Sheet)
    (hb : b ∈ s.books) (hleaf : b.leaves[b.arrived]? = some leaf) (hx : x.book = b.id) :
    ((s.setTrack { s.track.noPermit with reg := some x }).updateBook b.id Book.arrive).Accounted := by
  set rest := s.track.punch.toList.map (·.book) ++ s.track.notch.toList.map (·.book) ++ s.track.lane.map (·.sheet.book)
    with hrest
  have hnew : Track.books { s.track.noPermit with reg := some x } = b.id :: rest := by
    simp [Track.books_eq, Track.noPermit, hx, hrest]
  have hold : rest.Sublist s.track.books := by
    rw [Track.books_eq, List.append_assoc, List.append_assoc, ← List.append_assoc (s.track.punch.toList.map _)]
    exact List.sublist_append_right _ _
  have hgoal : Machine.Accounted (changeBook b.id Book.arrive s.books) (b.id :: rest) s.tray s.closer.mode.book? := by
    refine (h.mono hold.subperm).change b.id Book.arrive Book.arrive_id Book.arrive_leaves (.inl Book.arrive_stacked)
      (fun i hi => ?_) (fun _ => ⟨b, hb, rfl, trivial⟩) fun c hc hcid hcounts => ?_
    · rw [List.count_cons_of_ne (Ne.symm hi)]
    · obtain rfl := h.ids.eq hc hb hcid
      refine hcounts.arrive (by simp) ?_
      exact (List.getElem?_eq_some_iff.mp hleaf).1
  rw [← hnew] at hgoal
  exact hgoal

/-- A sheet of a book goes, and one counter of its book's record counts it. -/
theorem Accounted.leave {books : List Book} {track track' : List Nat} {tray : Tray} {closing : Option Nat}
    (h : Accounted books track tray closing) (id : Nat) (f : Book → Book) (hid : ∀ b, (f b).id = b.id)
    (hleaves : ∀ b, (f b).leaves = b.leaves)
    (hstacked : (∀ b, (f b).stacked = b.stacked) ∨ (tray ≠ .complete id ∧ closing ≠ some id))
    (hsum : ∀ b, (f b).stacked + (f b).dumped + (f b).rejected = b.stacked + b.dumped + b.rejected + 1)
    (hrest : ∀ b, (f b).arrived = b.arrived ∧ (f b).state = b.state) (hgone : (id :: track').Subperm track) :
    Accounted (changeBook id f books) track' tray closing := by
  refine h.change id f hid hleaves hstacked (fun i hi => ?_) (fun hmem => h.held id (hgone.subset (by simp)))
    fun b hb hbid hcounts => ?_
  · simpa [List.count_cons_of_ne (Ne.symm hi)] using hgone.count_le i
  · have hcount := hgone.count_le id
    rw [List.count_cons_self] at hcount
    obtain ⟨h1, h2, h3, h4⟩ := hcounts
    have hs := hsum b
    obtain ⟨harrived, hstate⟩ := hrest b
    refine ⟨by omega, by rw [hleaves]; omega, by rw [hleaves]; exact h3, by rw [hstate, harrived]; exact h4⟩

theorem Track.subperm_notch (t : Track) (x : Sheet) (hx : t.notch = some x) (d : Diverter) :
    (x.book :: Track.books { t with notch := none, diverter := d }).Subperm t.books := by
  refine List.Perm.subperm ?_
  rw [Track.books_eq, Track.books_eq, hx]
  simp only [Option.toList_none, Option.toList_some, List.map_nil, List.map_cons, List.append_nil, List.append_assoc,
    List.cons_append, List.nil_append]
  rw [← List.append_assoc, ← List.append_assoc]
  exact List.perm_middle.symm

theorem Track.subperm_popLane (t : Track) (e : LaneEntry) (rest : List LaneEntry) (hlane : t.lane = e :: rest) :
    (e.sheet.book :: t.popLane.books).Subperm t.books := by
  refine List.Perm.subperm ?_
  rw [Track.books_eq, Track.books_eq, Track.popLane, hlane]
  simp only [List.map_cons, List.tail_cons]
  exact List.perm_middle.symm

theorem Track.subperm_toLane (t : Track) (x : Sheet) (hx : t.notch = some x) (away : Bool) (d : Diverter) :
    (Track.books { t with notch := none, diverter := d, lane := t.lane ++ [{ sheet := x, away := away }] }).Subperm
      t.books := by
  refine List.Perm.subperm ?_
  rw [Track.books_eq, Track.books_eq, hx]
  simp only [Option.toList_none, Option.toList_some, List.map_nil, List.map_cons, List.append_nil, List.append_assoc,
    List.map_append]
  exact (List.Perm.append_left _ (List.Perm.append_left _ List.perm_append_comm))

theorem Track.subperm_toNotch (t : Track) (x : Sheet) (hx : t.punch = some x) :
    (Track.books { t with punch := none, notch := some x }).Subperm t.books := by
  refine List.Sublist.subperm ?_
  rw [Track.books_eq, Track.books_eq, hx]
  simp

theorem Track.subperm_toPunch (t : Track) (x y : Sheet) (hx : t.reg = some x) (hy : y.book = x.book) :
    (Track.books { t with reg := none, punch := some y }).Subperm t.books := by
  refine List.Sublist.subperm ?_
  rw [Track.books_eq, Track.books_eq, hx]
  simp [hy]

/-! ### The moves of the part -/

/-- A record that leaves the queue has nothing in the track, on the tray or in the Closer (R14). -/
theorem State.Accounted.removeQueued {s : State} (h : s.Accounted) (id : Nat) (b : Book) (hb : s.book? id = some b)
    (hqueued : b.state = .queued) : (s.removeBook id).Accounted := by
  obtain rfl := State.book?_id hb
  obtain ⟨hsum, hle, htwo, hzero⟩ := h.counts b (State.mem_of_book? hb)
  have harrived := hzero hqueued
  have hnot : ¬ AllStacked s.books b.id := by
    rintro ⟨c, hc, hid, hfull⟩
    rw [h.ids.eq hc (State.mem_of_book? hb) hid] at hfull
    omega
  refine h.keep _ (fun _ => id) fun c hc hneed => ?_
  have hne : c.id ≠ b.id := by
    intro hid
    rw [hid] at hneed
    obtain hmem | htray | hclosing := hneed
    · have := List.count_pos_iff.mpr hmem
      omega
    · exact hnot (h.complete _ htray)
    · exact hnot (h.closing _ hclosing).2
  simpa using hne

theorem State.Accounted.queueBook {s : State} (h : s.Accounted) (id slot : Nat) (hanger : Hanger) (leaves : List Leaf)
    (hids : IdsDistinct ((s.books ++ [newBook id slot hanger leaves]).map (·.id))) (hleaves : 2 ≤ leaves.length)
    (hnew : s.book? id = none) : (s.setBooks (s.books ++ [newBook id slot hanger leaves])).Accounted := by
  have hmore {i : Nat} {P : Book → Prop} (hi : ∃ b ∈ s.books, b.id = i ∧ P b) :
      ∃ b ∈ s.books ++ [newBook id slot hanger leaves], b.id = i ∧ P b := by
    obtain ⟨b, hb, hrest⟩ := hi
    exact ⟨b, List.mem_append_left _ hb, hrest⟩
  have hfresh : id ∉ s.track.books := by
    intro hmem
    obtain ⟨b, hb, hid, -⟩ := h.held id hmem
    simpa [hid] using List.find?_eq_none.mp hnew b hb
  refine ⟨hids, fun b hb => ?_, fun i hi => hmore (h.held i hi), fun i hi => hmore (h.complete i hi),
    fun i hi => ⟨(h.closing i hi).1, hmore (h.closing i hi).2⟩⟩
  obtain hb | hb := List.mem_append.mp hb
  · exact h.counts b hb
  · obtain rfl := List.mem_singleton.mp hb
    have hzero : s.track.books.count id = 0 := List.count_eq_zero.mpr hfresh
    refine ⟨?_, Nat.zero_le _, hleaves, fun _ => rfl⟩
    change s.track.books.count id + 0 + 0 + 0 ≤ 0
    omega

/-- A sheet laid on the tray of its book (R136). -/
theorem State.Accounted.lay {s : State} (h : s.Accounted) (e : LaneEntry) (rest : List LaneEntry)
    (hlane : s.track.lane = e :: rest) :
    (((s.setTrack s.track.popLane).updateBook e.sheet.book
      fun b => { b with stacked := b.stacked + 1 }).setTray (.building e.sheet.book)).Accounted := by
  have hgone := s.track.subperm_popLane e rest hlane
  have hmem : e.sheet.book ∈ s.track.books := hgone.subset (by simp)
  have hclosing : s.closer.mode.book? ≠ some e.sheet.book := fun hc =>
    h.not_mem_of_allStacked (h.closing _ hc).2 hmem
  have hlaid : Machine.Accounted s.books s.track.books (.building e.sheet.book) s.closer.mode.book? := by
    refine h.retray (fun _ he => by cases he) fun i hi hc => hclosing ?_
    cases hi
    exact hc
  exact hlaid.leave e.sheet.book (fun b => { b with stacked := b.stacked + 1 }) (fun _ => rfl) (fun _ => rfl)
    (.inr ⟨(fun he => by cases he), hclosing⟩) (fun b => by dsimp only; omega) (fun _ => ⟨rfl, rfl⟩) hgone

theorem State.Accounted.completeTray {s : State} (h : s.Accounted) (id : Nat) (b : Book) (htray : s.tray = .building id)
    (hb : s.book? id = some b) (hfull : b.stacked = b.leaves.length) :
    ((s.updateBook id fun b => { b with state := .stacked }).setTray (.complete id)).Accounted := by
  have hcomplete : Machine.Accounted s.books s.track.books (.complete id) s.closer.mode.book? := by
    refine h.retray (fun i hi => ?_) fun i hi hc => (h.closing i hc).1 (by rw [htray]; exact hi)
    cases hi
    exact ⟨b, State.mem_of_book? hb, State.book?_id hb, hfull⟩
  exact hcomplete.changeState id _ (fun _ => rfl) (fun _ => rfl) (fun _ => rfl)
    fun b n hc => ⟨hc.1, hc.2.1, hc.2.2.1, fun hq => by cases hq⟩

/-- The tray book becomes the book being closed (R145). -/
theorem State.Accounted.startClose {s : State} (h : s.Accounted) (id : Nat) (b : Book) (htray : s.tray = .complete id)
    (hb : s.book? id = some b) (w : Wire) (limit : Nat) :
    ((((s.updateBook b.id fun b => { b with state := .closing }).setWire w).setTray .empty).setCloser
      { mode := .closing b.id limit (.running 0), hookWait := false }).Accounted := by
  obtain rfl := State.book?_id hb
  have hclosing : Machine.Accounted s.books s.track.books .empty (some b.id) := by
    refine ⟨h.ids, h.counts, h.held, (fun i hi => by cases hi), fun i hi => ⟨(fun he => by cases he), ?_⟩⟩
    cases hi
    exact h.complete _ htray
  exact hclosing.changeState b.id _ (fun _ => rfl) (fun _ => rfl) (fun _ => rfl)
    fun b n hc => ⟨hc.1, hc.2.1, hc.2.2.1, fun hq => by cases hq⟩

/-- A bound book's record goes (R147). -/
theorem State.Accounted.bind {s : State} (h : s.Accounted) (id : Nat) (hclosing : s.closer.mode.book? = some id) :
    ((s.setBooks (s.books.filter fun b => !(b.id == id))).setCloser { s.closer with mode := .idle }).Accounted := by
  refine h.keep (closing' := none) _ (fun _ he => by cases he) fun c hc hneed => ?_
  obtain ⟨htray, hfull⟩ := h.closing id hclosing
  have hne : c.id ≠ id := by
    rintro rfl
    obtain hmem | hcomplete | hnone := hneed
    · exact h.not_mem_of_allStacked hfull hmem
    · exact htray (by rw [hcomplete]; rfl)
    · cases hnone
  simpa using hne

theorem State.Accounted.noPermit {s : State} (h : s.Accounted) : (s.setTrack s.track.noPermit).Accounted := h

theorem State.Accounted.halt {s : State} (h : s.Accounted) (c : HaltCause) : (s.halt c).Accounted := by
  obtain ⟨-, he⟩ | ⟨-, he⟩ := s.halt_cases c
  · rw [he]
    exact h
  · rw [he]
    exact State.Accounted.sweep (by exact h)

/-- STOP empties the track, then the tray, and gives up a timed-out close (R79, R137, R148, R155). -/
theorem State.Accounted.stop {s : State} (h : s.Accounted) : s.stopLine.Accounted := by
  have hclosing (i : Nat) (hi : s.closer.stopped.mode.book? = some i) : s.closer.mode.book? = some i := by
    unfold Closer.stopped at hi
    split at hi
    · cases hi
    · exact hi
  have hcleared : (s.stopBlocks.setCloser s.closer.stopped).Accounted := by
    have hempty := h.mono (track' := Track.cleared.books) (List.nil_subperm)
    have hbooks : (s.stopBlocks.setCloser s.closer.stopped).books = s.books := by simp
    have htray : (s.stopBlocks.setCloser s.closer.stopped).tray = s.tray := by simp
    rw [State.Accounted, hbooks, htray]
    exact ⟨hempty.ids, hempty.counts, hempty.held, hempty.complete, fun i hi => hempty.closing i (hclosing i hi)⟩
  have hpurged := (spoilMoves_purges (r := .cutting) (by decide) s.purged _).keeps
    (P := State.Accounted) (fun _ _ => SpoilMove.accounted) hcleared
  rw [State.stopLine]
  simp only [State.Accounted, State.lineTo_frame]
  refine State.Accounted.sweep ?_
  exact hpurged.retray (fun _ he => by cases he) fun _ he => by cases he

theorem Move.accounted {r : Rank} {s t : State} (h : Move r s t) (hs : s.Accounted) : t.Accounted := by
  cases h with
  | inner _ hinner => exact hinner.accounted hs
  | queueBook id slot hanger leaves hroom hid hnew hformat hleaves =>
    exact hs.queueBook id slot hanger leaves
      ((Move.queueBook (r := r) s id slot hanger leaves hroom hid hnew hformat hleaves).idsDistinct hs.ids) hleaves hnew
  | removeQueued id b hb hqueued => exact hs.removeQueued id b hb hqueued
  | retouch _ hlike =>
    rw [State.Accounted, State.setTrack_track, hlike.books]
    exact hs
  | newcomer p b leaf seq hpermit hb hleaf => exact hs.newcomer b leaf _ (State.mem_of_book? hb) hleaf rfl
  | toBin x hx =>
    exact hs.leave x.book (fun b => { b with rejected := b.rejected + 1 }) (fun _ => rfl) (fun _ => rfl)
      (.inl fun _ => rfl) (fun b => by dsimp only; omega) (fun _ => ⟨rfl, rfl⟩) (s.track.subperm_notch x hx .bin)
  | toLane x hx => exact hs.mono (s.track.subperm_toLane x hx false .lane)
  | toDrill x d hx => exact hs.mono (s.track.subperm_toLane x hx true .drill)
  | toNotch x hx => exact hs.mono (s.track.subperm_toNotch x hx)
  | toPunchRejected x y hx _ hbook => exact hs.mono (s.track.subperm_toPunch x y hx hbook)
  | toPunchPlanned x i body route hx =>
    exact (hs.mono (s.track.subperm_toPunch x { x with
      plan := some { state := .ready, body := body }, route := route } hx rfl)).changeState x.book _ (fun _ => rfl)
      (fun _ => rfl) (fun _ => rfl) fun _ _ hb => hb
  | toPunchUnplanned x hx => exact hs.mono (s.track.subperm_toPunch x x hx rfl)
  | rejectAtPunch x y hx _ hbook =>
    have hsame : (s.setPunch y).track.books = s.track.books := by
      rw [Track.books_eq, Track.books_eq, State.setPunch, hx]
      simp [hbook]
    rw [State.Accounted, hsame]
    exact hs
  | dump e rest hlane =>
    exact hs.leave e.sheet.book (fun b => { b with dumped := b.dumped + 1 }) (fun _ => rfl) (fun _ => rfl)
      (.inl fun _ => rfl) (fun b => by dsimp only; omega) (fun _ => ⟨rfl, rfl⟩) (s.track.subperm_popLane e rest hlane)
  | lay e rest b hlane => exact hs.lay e rest hlane
  | complete id b htray hb hfull => exact hs.completeTray id b htray hb hfull
  | startClose id loops b htray hcloser hcut hb limit hooks => exact hs.startClose id b htray hb _ limit
  | bind id hclosing => exact hs.bind id hclosing
  | halt c => exact hs.halt c
  | unmount d m hiface =>
    unfold State.contactOpens
    simp only [hiface]
    unfold State.dieGone
    split
    · simpa [State.Accounted] using hs
    · exact hs
    · exact State.Accounted.halt (by exact hs) _
  | stop => exact hs.stop
  | judgeDrainEnd | toDraining | startRun | mount => simpa [State.Accounted] using hs
  | emitFire | dropNotices | setFormat | endPermit | issue | refeed | watch | count | startCycle | stage => exact hs

theorem Restarted.accounted {s t : State} (h : Restarted s t) : t.Accounted := by
  obtain ⟨-, -, -, -, -, -, hbooks, -, -, htrack, -, -, htray, -, hcloser, -⟩ := h.fields
  rw [State.Accounted, hbooks, htrack, htray, hcloser]
  exact ⟨⟨by decide, by decide, by decide⟩, by simp, by simp [Track.books, Track.sheets, State.reset], (fun _ he => by cases he),
    (fun _ he => by cases he)⟩

/-- Settles O5: every move keeps the account, and a restart empties it. -/
theorem sheetsAccountedKept : Obligations.SheetsAccountedKept := by
  unfold Obligations.SheetsAccountedKept
  intro s t hs hstep
  rw [sheetsAccounted_iff] at hs ⊢
  exact step_keeps_of_moves (P := State.Accounted) (fun _ _ => Restarted.accounted) (fun _ _ _ _ => id)
    (fun _ _ => Move.accounted) s t hs hstep

end Sys2Proof.Machine
end

section
/-! PROOFS. The plan of a sheet: its checks in order, its slot count, its hole slots and its pin search (R27 to R42). -/

namespace Sys2Proof.Machine

open Sys2Proof.Safety

/-! ### The checks in their order -/

/-- The outcomes of a plan, each with what the checks before it have found (R27). -/
inductive PlanOutcome (i : PlanInput) : Except Reason PlanBody → Prop
  | noGauge (he : i.sheet.edges = none) : PlanOutcome i (.error .noGauge)
  | width (e : Edges) (he : i.sheet.edges = some e) (hwidth : widthFails i.format e = true) :
      PlanOutcome i (.error .width)
  | skew (e : Edges) (he : i.sheet.edges = some e) (hwidth : widthFails i.format e = false)
      (hskew : i.format.skewLimit < i.sheet.skew) : PlanOutcome i (.error .skew)
  | caliper (e : Edges) (he : i.sheet.edges = some e) (hwidth : widthFails i.format e = false)
      (hskew : i.sheet.skew ≤ i.format.skewLimit) (r : Reason)
      (hcaliper : caliperFault i.leaf.caliper i.sheet.caliper = some r) : PlanOutcome i (.error r)
  | mark (e : Edges) (he : i.sheet.edges = some e) (hwidth : widthFails i.format e = false)
      (hskew : i.sheet.skew ≤ i.format.skewLimit)
      (hcaliper : caliperFault i.leaf.caliper i.sheet.caliper = none) (r : Reason)
      (hmark : markFault i.format.markPolicy i.sheet.leaf i.book.id i.sheet.mark = some r) : PlanOutcome i (.error r)
  | pitch (e : Edges) (he : i.sheet.edges = some e) (hwidth : widthFails i.format e = false)
      (hskew : i.sheet.skew ≤ i.format.skewLimit)
      (hcaliper : caliperFault i.leaf.caliper i.sheet.caliper = none)
      (hmark : markFault i.format.markPolicy i.sheet.leaf i.book.id i.sheet.mark = none)
      (hpitch : i.format.p ≠ i.die.p) : PlanOutcome i (.error .pitch)
  | placed (e : Edges) (r : Except Reason PlanBody) (he : i.sheet.edges = some e)
      (hwidth : widthFails i.format e = false) (hskew : i.sheet.skew ≤ i.format.skewLimit)
      (hcaliper : caliperFault i.leaf.caliper i.sheet.caliper = none)
      (hmark : markFault i.format.markPolicy i.sheet.leaf i.book.id i.sheet.mark = none)
      (hpitch : i.format.p = i.die.p)
      (hplaced : (slotCount i.book.tBook i.format i.die.n e.width = none ∧ r = .error .margin)
        ∨ ∃ t, slotCount i.book.tBook i.format i.die.n e.width = some t
          ∧ ((marginFails i.format t e.width = true ∧ r = .error .margin)
            ∨ (marginFails i.format t e.width = false ∧ r = planPattern i e t))) : PlanOutcome i r

theorem planOutcome (i : PlanInput) : PlanOutcome i (planSheet i) := by
  unfold planSheet
  split
  · next he => exact .noGauge he
  next e he =>
  split
  · next hwidth => exact .width e he hwidth
  next hwidth =>
  have hwidth : widthFails i.format e = false := by simpa using hwidth
  split
  · next hskew => exact .skew e he hwidth hskew
  next hskew =>
  have hskew : i.sheet.skew ≤ i.format.skewLimit := Nat.not_lt.mp hskew
  split
  · next r hcaliper => exact .caliper e he hwidth hskew r hcaliper
  next hcaliper =>
  split
  · next r hmark => exact .mark e he hwidth hskew hcaliper r hmark
  next hmark =>
  split
  · next hpitch => exact .pitch e he hwidth hskew hcaliper hmark hpitch
  next hpitch =>
  refine .placed e _ he hwidth hskew hcaliper hmark (not_not.mp hpitch) ?_
  split
  · next hcount => exact .inl ⟨hcount, rfl⟩
  next t hcount =>
  refine .inr ⟨t, hcount, ?_⟩
  split
  · next hmargin => exact .inl ⟨hmargin, rfl⟩
  · next hmargin => exact .inr ⟨by simpa using hmargin, rfl⟩

/-- The reasons of the caliper checks (R30). -/
theorem caliperFault_eq_some {expected : Nat} {measured : Option Nat} {r : Reason} :
    caliperFault expected measured = some r ↔ ∃ c, measured = some c
      ∧ ((r = .doubleFeed ∧ 17 * expected < 10 * c) ∨ (r = .thin ∧ 2 * c < expected)) := by
  cases measured with
  | none => simp [caliperFault]
  | some c =>
    simp only [caliperFault, Option.some.injEq, exists_eq_left']
    split
    · next h =>
      have hthin : ¬ 2 * c < expected := by omega
      simp [h, hthin, eq_comm]
    · next h =>
      split
      · next h' => simp [h, h', eq_comm]
      · next h' => simp [h, h']

theorem caliperFault_eq_none {expected : Nat} {measured : Option Nat} :
    caliperFault expected measured = none ↔ ∀ c, measured = some c → ¬ 17 * expected < 10 * c ∧ ¬ 2 * c < expected := by
  cases measured with
  | none => simp [caliperFault]
  | some c =>
    simp only [caliperFault, Option.some.injEq, forall_eq']
    split
    · next h => simp [h]
    · next h =>
      split
      · next h' => simp [h']
      · next h' => exact iff_of_true rfl ⟨h, h'⟩

theorem markMatches_iff (leaf book : Nat) (m : Mark) :
    markMatches leaf book m = true ↔ m.leaf = leaf ∧ m.tag = book % 256 := by
  simp [markMatches]

/-- The reasons of the mark check (R31). -/
theorem markFault_eq_some {policy : MarkPolicy} {leaf book : Nat} {m : Option Mark} {r : Reason} :
    markFault policy leaf book m = some r ↔
      (r = .markMissing ∧ policy = .required ∧ m = none)
      ∨ (r = .markMismatch ∧ policy ≠ .ignored ∧ ∃ x, m = some x ∧ ¬ (x.leaf = leaf ∧ x.tag = book % 256)) := by
  cases m with
  | none => cases policy <;> simp [markFault, eq_comm]
  | some x =>
    by_cases hx : markMatches leaf book x = true
    · have hx' := (markMatches_iff leaf book x).mp hx
      cases policy <;> simp [markFault, hx, hx']
    · have hx' : ¬ (x.leaf = leaf ∧ x.tag = book % 256) := fun h => hx ((markMatches_iff leaf book x).mpr h)
      have hwrong : (∃ y, some x = some y ∧ ¬ (y.leaf = leaf ∧ y.tag = book % 256)) ↔ True :=
        iff_true_intro ⟨x, rfl, hx'⟩
      cases policy <;> simp only [markFault, hx, hwrong] <;> simp [eq_comm (a := r)]

theorem markFault_eq_none {policy : MarkPolicy} {leaf book : Nat} {m : Option Mark} :
    markFault policy leaf book m = none ↔ policy = .ignored ∨ (policy = .ifRead ∧ m = none)
      ∨ ∃ x, m = some x ∧ (x.leaf = leaf ∧ x.tag = book % 256) := by
  cases m with
  | none => cases policy <;> simp [markFault]
  | some x =>
    have hx := markMatches_iff leaf book x
    cases policy <;> simp [markFault, hx]

theorem widthFails_iff (f : Format) (e : Edges) :
    widthFails f e = true ↔ e.r ≤ e.l ∨ f.wn + f.wt < e.r - e.l ∨ e.r - e.l + f.wt < f.wn := by
  unfold widthFails Edges.width
  rw [Bool.or_eq_true, Bool.or_eq_true, decide_eq_true_iff, decide_eq_true_iff, decide_eq_true_iff]
  omega

/-- The reasons of the notch check (R39). -/
theorem notchFault_reason {tool : Option NotchTool} {c : Nat} {m : Option Nat} {r : Reason}
    (h : notchFault tool c m = some r) : r = .noNotch ∨ r = .notchReach := by
  unfold notchFault at h
  repeat' split at h
  all_goals cases h <;> simp

/-- The reasons of a plan whose slot count and margins are good (R37, R39). -/
theorem planPattern_error {i : PlanInput} {e : Edges} {t : Nat} {r : Reason} (h : planPattern i e t = .error r) :
    r = .outOfReach ∨ r = .pinUnavailable ∨ r = .noNotch ∨ r = .notchReach := by
  have hfirst {n t : Nat} {slots : List Nat} {pins : List Pin} {cands : List Int} {r : Reason}
      (h : firstPin n t slots pins cands = .error r) : r = .outOfReach ∨ r = .pinUnavailable := by
    unfold firstPin at h
    split at h
    · cases h
    · split at h <;> cases h <;> simp
  unfold planPattern at h
  dsimp only at h
  split at h
  · cases h
  split at h
  · cases h
    exact .inl rfl
  split at h
  · next hf =>
    cases h
    exact (hfirst hf).imp_right .inl
  split at h
  · split at h
    · next hn =>
      cases h
      exact .inr (.inr (notchFault_reason hn))
    · cases h
  · cases h

theorem caliperFault_eq_doubleFeed {expected : Nat} {measured : Option Nat} :
    caliperFault expected measured = some .doubleFeed ↔ ∃ c, measured = some c ∧ 17 * expected < 10 * c := by
  simp [caliperFault_eq_some]

theorem caliperFault_eq_thin {expected : Nat} {measured : Option Nat} :
    caliperFault expected measured = some .thin ↔ ∃ c, measured = some c ∧ 2 * c < expected := by
  simp [caliperFault_eq_some]

theorem markFault_eq_missing {policy : MarkPolicy} {leaf book : Nat} {m : Option Mark} :
    markFault policy leaf book m = some .markMissing ↔ policy = .required ∧ m = none := by
  simp [markFault_eq_some]

theorem markFault_eq_mismatch {policy : MarkPolicy} {leaf book : Nat} {m : Option Mark} :
    markFault policy leaf book m = some .markMismatch ↔
      policy ≠ .ignored ∧ ∃ x, m = some x ∧ ¬ (x.leaf = leaf ∧ x.tag = book % 256) := by
  simp [markFault_eq_some]

/-- Settles O21: each outcome makes one of the checks the first to fail. -/
theorem planReasonsInOrder : Obligations.PlanReasonsInOrder := by
  unfold Obligations.PlanReasonsInOrder
  intro i
  dsimp only
  simp only [← widthFails_iff, ← caliperFault_eq_none, ← caliperFault_eq_doubleFeed, ← caliperFault_eq_thin,
    ← markFault_eq_none,
    ← markFault_eq_missing (leaf := i.sheet.leaf) (book := i.book.id), ← markFault_eq_mismatch]
  have houtcome := planOutcome i
  generalize planSheet i = outcome at houtcome ⊢
  cases houtcome with
  | noGauge he => simp [he]
  | width e he hwidth => simp [he, hwidth]
  | skew e he hwidth hskew =>
    have hnot := Nat.not_le.mpr hskew
    simp [he, hwidth, hskew, hnot]
  | caliper e he hwidth hskew r hcaliper =>
    have hnot := Nat.not_lt.mpr hskew
    obtain ⟨c, -, ⟨rfl, -⟩ | ⟨rfl, -⟩⟩ := caliperFault_eq_some.mp hcaliper <;> simp [he, hwidth, hskew, hnot, hcaliper]
  | mark e he hwidth hskew hcaliper r hmark =>
    have hnot := Nat.not_lt.mpr hskew
    obtain ⟨rfl, -⟩ | ⟨rfl, -⟩ := markFault_eq_some.mp hmark <;> simp [he, hwidth, hskew, hnot, hcaliper, hmark]
  | pitch e he hwidth hskew hcaliper hmark hpitch =>
    have hnot := Nat.not_lt.mpr hskew
    simp [he, hwidth, hskew, hnot, hcaliper, hmark, hpitch]
  | placed e r he hwidth hskew hcaliper hmark hpitch hplaced =>
    have hnot := Nat.not_lt.mpr hskew
    have hlate : ∀ x, outcome = .error x → x = .margin ∨ x = .outOfReach ∨ x = .pinUnavailable ∨ x = .noNotch
        ∨ x = .notchReach := by
      rintro x rfl
      obtain ⟨-, h⟩ | ⟨t, -, ⟨-, h⟩ | ⟨-, h⟩⟩ := hplaced
      · cases h
        exact .inl rfl
      · cases h
        exact .inl rfl
      · exact .inr (planPattern_error h.symm)
    have hnever (x : Reason) (hx : ¬ (x = .margin ∨ x = .outOfReach ∨ x = .pinUnavailable ∨ x = .noNotch
        ∨ x = .notchReach)) : outcome ≠ .error x := fun h => hx (hlate x h)
    simp [he, hwidth, hskew, hnot, hcaliper, hmark, hpitch, hnever]

end Sys2Proof.Machine
end

section
/-! PROOFS. The arithmetic of the plan: the AUTO slot count, the hole slots and the candidates of the pin search (R33, R35,
R37). -/

namespace Sys2Proof.Machine

open Sys2Proof.Safety

/-! ### The AUTO slot count -/

/-- Settles O23: a count keeps the margins exactly when it is at most the quotient plus one, and the parity then takes at
most one off. -/
theorem autoSlotCountLargest : Obligations.AutoSlotCountLargest := by
  unfold Obligations.AutoSlotCountLargest
  intro f n w hp hw
  dsimp only
  have hpos : (0 : Int) < f.p := by exact_mod_cast hp
  have hmargin (t : Nat) : ((t : Int) - 1) * f.p ≤ w - 2 * f.m ↔ (t : Int) ≤ (w - 2 * f.m) / f.p + 1 := by
    rw [← Int.le_ediv_iff_mul_le hpos]
    omega
  have hquot : 0 ≤ (w - 2 * f.m) / (f.p : Int) := Int.ediv_nonneg (by omega) hpos.le
  simp only [hmargin, autoSlotCount]
  generalize (w - 2 * f.m) / (f.p : Int) = q at hquot ⊢
  -- the largest count of the right parity within the die and the margins
  generalize ht2 : (if (n : Int) < q + 1 then (n : Int) else q + 1) = t2
  generalize ht3 : (if 0 < f.g ∧ (t2 - f.g) % 2 = 1 then t2 - 1 else t2) = t3
  have hfits (t : Nat) : (t ≤ n ∧ (t : Int) ≤ q + 1 ∧ (0 < f.g → t % 2 = f.g % 2) ∧ f.g + 2 ≤ t)
      ↔ (t : Int) ≤ t3 ∧ (0 < f.g → t % 2 = f.g % 2) ∧ f.g + 2 ≤ t := by
    split at ht2 <;> split at ht3 <;> omega
  have hparity : 0 ≤ t3 → 0 < f.g → t3.toNat % 2 = f.g % 2 := by
    split at ht3 <;> omega
  simp only [hfits]
  split
  · next hnone =>
    have hno (t : Nat) : ¬ ((t : Int) ≤ t3 ∧ (0 < f.g → t % 2 = f.g % 2) ∧ f.g + 2 ≤ t) := by omega
    simp [hno]
  · next hsome =>
    have hfit : (t3.toNat : Int) ≤ t3 ∧ (0 < f.g → t3.toNat % 2 = f.g % 2) ∧ f.g + 2 ≤ t3.toNat :=
      ⟨by omega, hparity (by omega), by omega⟩
    refine ⟨fun t => ⟨?_, ?_⟩, ?_⟩
    · rintro ⟨⟩
      exact ⟨hfit, fun t' ht' => by omega⟩
    · rintro ⟨ht, hlargest⟩
      have := hlargest _ hfit
      rw [Option.some.injEq]
      omega
    · simpa using ⟨_, hfit⟩

/-! ### The hole slots -/

/-- The centred hanger gap of a row of `t` slots, as a gap (R35). -/
def hangerGap (t g : Nat) : Gap := { first := (t - g) / 2, count := g }

theorem Gap.holds_iff (x : Gap) (j : Nat) : x.holds j = true ↔ InGap x j := by
  simp [Gap.holds, InGap]

theorem inHangerGap_eq (t g j : Nat) : inHangerGap t g j = (hangerGap t g).holds j := by
  rw [Bool.eq_iff_iff, Gap.holds_iff]
  simp only [inHangerGap, hangerGap, InGap, Bool.and_eq_true, decide_eq_true_eq]
  omega

theorem inHangerGap_iff (t g j : Nat) : inHangerGap t g j = true ↔ InHangerGap t g j := by
  simp only [inHangerGap, InHangerGap, Bool.and_eq_true, decide_eq_true_eq, and_assoc]

theorem mem_holeSlots (f : Format) (t j : Nat) :
    j ∈ holeSlots f t ↔ j < t ∧ ¬ InHangerGap t f.g j ∧ ∀ x ∈ f.gaps, ¬ InGap x j := by
  simp [holeSlots, ← inHangerGap_iff, ← Gap.holds_iff]

/-- The hole slots are the slots in none of a list of gaps. -/
theorem holeSlots_eq (f : Format) (t : Nat) :
    holeSlots f t = (List.range t).filter fun j => !((hangerGap t f.g :: f.gaps).any fun x => x.holds j) := by
  simp [holeSlots, inHangerGap_eq, Bool.not_or]

/-- A gap within the row takes its count of slots. -/
theorem countP_gap (x : Gap) (t : Nat) (h : x.first + x.count ≤ t) : (List.range t).countP x.holds = x.count := by
  have hfilter : (List.range t).filter x.holds = List.range' x.first x.count := by
    refine List.Pairwise.eq_of_mem_iff (r := (· < ·)) ?_ ?_ fun j => ?_
    · exact List.pairwise_lt_range.filter _
    · exact List.pairwise_lt_range'
    · rw [List.mem_filter, List.mem_range, Gap.holds_iff, List.mem_range'_1]
      omega
  rw [List.countP_eq_length_filter, hfilter, List.length_range']

/-- Gaps that do not overlap take the sum of their counts. -/
theorem countP_gaps (t : Nat) (gaps : List Gap) (hfit : ∀ x ∈ gaps, x.first + x.count ≤ t)
    (hapart : gaps.Pairwise fun x y => ∀ j, ¬ (InGap x j ∧ InGap y j)) :
    (List.range t).countP (fun j => gaps.any fun x => x.holds j) = (gaps.map (·.count)).sum := by
  induction gaps with
  | nil => simp
  | cons x gaps ih =>
    obtain ⟨hx, hrest⟩ := List.pairwise_cons.mp hapart
    have hdisjoint (j : Nat) : ¬ (x.holds j = true ∧ (gaps.any fun y => y.holds j) = true) := by
      rintro ⟨h1, h2⟩
      obtain ⟨y, hy, h2⟩ := List.any_eq_true.mp h2
      exact hx y hy j ⟨(x.holds_iff j).mp h1, (y.holds_iff j).mp h2⟩
    have hsplit : ∀ l : List Nat, l.countP (fun j => (x :: gaps).any fun y => y.holds j)
        = l.countP x.holds + l.countP fun j => gaps.any fun y => y.holds j := by
      intro l
      induction l with
      | nil => rfl
      | cons j l ih =>
        rw [List.countP_cons, List.countP_cons, List.countP_cons, ih, List.any_cons]
        cases h1 : x.holds j with
        | false => simp [Nat.add_assoc]
        | true =>
          have h2 : (gaps.any fun y => y.holds j) = false := by simpa [h1] using hdisjoint j
          simp only [h2, Bool.or_false, if_true, Bool.false_eq_true, if_false]
          omega
    rw [hsplit, countP_gap x t (hfit x (by simp)), ih (fun y hy => hfit y (List.mem_cons_of_mem _ hy)) hrest,
      List.map_cons, List.sum_cons]

/-- The hole slots number the row less the gaps, where these do not overlap. -/
theorem holeSlots_length (f : Format) (t : Nat) (hfit : ∀ x ∈ hangerGap t f.g :: f.gaps, x.first + x.count ≤ t)
    (hapart : (hangerGap t f.g :: f.gaps).Pairwise fun x y => ∀ j, ¬ (InGap x j ∧ InGap y j)) :
    (holeSlots f t).length = t - f.g - (f.gaps.map (·.count)).sum := by
  have htaken := countP_gaps t _ hfit hapart
  have hall := List.length_eq_countP_add_countP (fun j => (hangerGap t f.g :: f.gaps).any fun x => x.holds j)
    (l := List.range t)
  rw [List.length_range, htaken, List.map_cons, List.sum_cons] at hall
  rw [holeSlots_eq, ← List.countP_eq_length_filter]
  have hg : (hangerGap t f.g).count = f.g := rfl
  simp only [Bool.not_eq_true, Bool.decide_eq_false] at hall
  omega

theorem hangerGap_fits (t g : Nat) (h : g ≤ t) : (hangerGap t g).first + (hangerGap t g).count ≤ t := by
  simp only [hangerGap]
  omega

/-- Settles O24. -/
theorem holeSlotsCounted : Obligations.HoleSlotsCounted := by
  unfold Obligations.HoleSlotsCounted
  refine ⟨mem_holeSlots, fun f t => List.pairwise_lt_range.filter _, fun f t gaps hmode hlegal => ?_,
    fun f t hmode hg => ?_⟩
  · obtain ⟨-, -, -, -, hhanger, hfit, hapart, hclear, hsum⟩ := hlegal
    have hgaps : f.gaps = gaps := by simp [Format.gaps, hmode]
    rw [holeSlots_length, hgaps]
    · rw [hgaps]
      refine List.forall_mem_cons.mpr ⟨hangerGap_fits t f.g (by omega), hfit⟩
    · rw [hgaps]
      refine List.pairwise_cons.mpr ⟨fun x hx j hj => hclear x hx j ⟨hj.2, ?_⟩, hapart⟩
      rw [← inHangerGap_iff, inHangerGap_eq, Gap.holds_iff]
      exact hj.1
  · have hgaps : f.gaps = [] := by simp [Format.gaps, hmode]
    rw [holeSlots_length, hgaps]
    · rfl
    · simpa [hgaps] using hangerGap_fits t f.g hg
    · simp [hgaps]

/-! ### The candidates -/

/-- Candidate `a` is examined no later than `b` (R37). -/
def Before (shift : Int → Int) (a b : Int) : Prop :=
  (shift a).natAbs < (shift b).natAbs ∨ ((shift a).natAbs = (shift b).natAbs ∧ a ≤ b)

theorem candidateBefore_iff (shift : Int → Int) (a b : Int) : candidateBefore shift a b = true ↔ Before shift a b := by
  simp [candidateBefore, Before]

theorem insertCandidate_perm (shift : Int → Int) (a : Int) (l : List Int) :
    (insertCandidate shift a l).Perm (a :: l) := by
  induction l with
  | nil => exact List.Perm.refl _
  | cons b l ih =>
    unfold insertCandidate
    split
    · exact List.Perm.refl _
    · exact (ih.cons b).trans (List.Perm.swap a b l)

theorem insertCandidate_sorted (shift : Int → Int) (a : Int) (l : List Int) (h : l.Pairwise (Before shift)) :
    (insertCandidate shift a l).Pairwise (Before shift) := by
  induction l with
  | nil => simp [insertCandidate]
  | cons b l ih =>
    obtain ⟨hb, hl⟩ := List.pairwise_cons.mp h
    unfold insertCandidate
    split
    · next hab =>
      rw [candidateBefore_iff] at hab
      refine List.pairwise_cons.mpr ⟨fun c hc => ?_, h⟩
      obtain rfl | hc := List.mem_cons.mp hc
      · exact hab
      · have hbc := hb c hc
        unfold Before at *
        omega
    · next hab =>
      rw [candidateBefore_iff] at hab
      refine List.pairwise_cons.mpr ⟨fun c hc => ?_, ih hl⟩
      obtain rfl | hc := List.mem_cons.mp ((insertCandidate_perm shift a l).mem_iff.mp hc)
      · unfold Before at *
        omega
      · exact hb c hc

theorem foldr_insertCandidate (shift : Int → Int) (l : List Int) :
    (l.foldr (insertCandidate shift) []).Perm l ∧ (l.foldr (insertCandidate shift) []).Pairwise (Before shift) := by
  induction l with
  | nil => exact ⟨List.Perm.refl _, List.Pairwise.nil⟩
  | cons a l ih =>
    exact ⟨(insertCandidate_perm shift a _).trans (ih.1.cons a), insertCandidate_sorted shift a _ ih.2⟩

/-- The whole numbers about the quotient, of which those within reach are examined. -/
def nearby (x0 : Int) (d0 p : Nat) : List Int :=
  let q := (x0 - 2 * (d0 : Int)) / (2 * (p : Int))
  [q - 1, q, q + 1, q + 2]

theorem candidates_perm (x0 : Int) (d0 p : Nat) :
    (candidates x0 d0 p).Perm
      ((nearby x0 d0 p).filter fun k => decide ((doubledShift x0 d0 p k).natAbs ≤ reach)) :=
  (foldr_insertCandidate _ _).1

/-- The doubled shift of a candidate some places from the quotient. -/
theorem doubledShift_eq (x0 : Int) (d0 p : Nat) (hp : 0 < p) (k : Int) :
    ∃ rem : Int, 0 ≤ rem ∧ rem < 2 * p
      ∧ doubledShift x0 d0 p k = rem - 2 * ((k - (x0 - 2 * (d0 : Int)) / (2 * (p : Int))) * p) := by
  refine ⟨(x0 - 2 * (d0 : Int)) % (2 * (p : Int)), Int.emod_nonneg _ (by omega), Int.emod_lt_of_pos _ (by omega), ?_⟩
  have h := Int.mul_ediv_add_emod (x0 - 2 * (d0 : Int)) (2 * (p : Int))
  unfold doubledShift
  linear_combination -h

/-- Settles O25: what lies within reach is one of four whole numbers, of which the outermost two are not both. -/
theorem candidatesExamined : Obligations.CandidatesExamined := by
  unfold Obligations.CandidatesExamined
  intro x0 d0 p hp
  dsimp only
  change (∀ k : Int, k ∈ candidates x0 d0 p ↔ (doubledShift x0 d0 p k).natAbs ≤ reach)
    ∧ (candidates x0 d0 p).Pairwise (fun a b => (doubledShift x0 d0 p a).natAbs < (doubledShift x0 d0 p b).natAbs
      ∨ ((doubledShift x0 d0 p a).natAbs = (doubledShift x0 d0 p b).natAbs ∧ a < b))
    ∧ (candidates x0 d0 p).length ≤ 3
  have hperm := candidates_perm x0 d0 p
  have hshift := doubledShift_eq x0 d0 p (by omega)
  refine ⟨fun k => ?_, ?_, ?_⟩
  · rw [hperm.mem_iff, List.mem_filter, decide_eq_true_iff, and_iff_right_iff_imp]
    intro hreach
    obtain ⟨rem, hrem, hlt, he⟩ := hshift k
    generalize hq : (x0 - 2 * (d0 : Int)) / (2 * (p : Int)) = q at he
    have hlow : q - 2 < k := by
      by_contra hk
      have : (k - q) * p ≤ -2 * p := Int.mul_le_mul_of_nonneg_right (by omega) (by omega)
      simp only [reach] at hreach
      omega
    have hhigh : k < q + 3 := by
      by_contra hk
      have : 3 * (p : Int) ≤ (k - q) * p := Int.mul_le_mul_of_nonneg_right (by omega) (by omega)
      simp only [reach] at hreach
      omega
    simp only [nearby, hq, List.mem_cons, List.not_mem_nil, or_false]
    omega
  · have hnodup : (candidates x0 d0 p).Nodup := by
      rw [hperm.nodup_iff]
      refine List.Nodup.filter _ ?_
      simp [nearby]
      omega
    have hsorted : (candidates x0 d0 p).Pairwise (Before (doubledShift x0 d0 p)) := (foldr_insertCandidate _ _).2
    refine (hsorted.and hnodup).imp fun {a b} h => ?_
    obtain ⟨hbefore, hne⟩ := h
    unfold Before at hbefore
    omega
  · rw [hperm.length_eq]
    simp only [nearby]
    generalize (x0 - 2 * (d0 : Int)) / (2 * (p : Int)) = q
    -- the outermost two lie on either side, three pitches apart
    have hnot : ¬ ((doubledShift x0 d0 p (q - 1)).natAbs ≤ reach ∧ (doubledShift x0 d0 p (q + 2)).natAbs ≤ reach) := by
      have happart : doubledShift x0 d0 p (q - 1) - doubledShift x0 d0 p (q + 2) = 6 * p := by
        unfold doubledShift
        ring
      simp only [reach]
      omega
    by_cases h : (doubledShift x0 d0 p (q - 1)).natAbs ≤ reach
    · have hl : ¬ (doubledShift x0 d0 p (q + 2)).natAbs ≤ reach := fun h' => hnot ⟨h, h'⟩
      have hsplit : [q - 1, q, q + 1, q + 2] = [q - 1, q, q + 1] ++ [q + 2] := rfl
      rw [hsplit, List.filter_append, List.filter_cons_of_neg (a := q + 2) (by simpa using hl), List.filter_nil,
        List.append_nil]
      exact List.length_filter_le _ _
    · rw [List.filter_cons_of_neg (by simpa using h)]
      exact List.length_filter_le _ _

end Sys2Proof.Machine
end

section
/-! PROOFS. What every plan satisfies, and when a plan fails with each of its later reasons (R33 to R42). -/

namespace Sys2Proof.Machine

open Sys2Proof.Safety

/-! ### The pin search -/

theorem pinActive_iff (pins : List Pin) (k : Nat) :
    pinActive pins k = true ↔ ∃ x, pins[k]? = some x ∧ x.state = .active := by
  unfold pinActive
  split <;> simp_all

theorem rowActive_iff (pins : List Pin) (slots : List Nat) (k : Nat) :
    rowActive pins slots k = true ↔ ∀ j ∈ slots, ∃ x, pins[k + j]? = some x ∧ x.state = .active := by
  simp [rowActive, pinActive_iff]

/-- The candidates lie on the die exactly as whole pins (R37). -/
theorem onDie_iff (n t : Nat) (k : Int) : onDie n t k = true ↔ ∃ m : Nat, k = m ∧ m + t ≤ n := by
  simp only [onDie, Bool.and_eq_true, decide_eq_true_eq]
  constructor
  · rintro ⟨h0, hn⟩
    exact ⟨k.toNat, by omega, by omega⟩
  · rintro ⟨m, rfl, hm⟩
    omega

/-- A pin search that succeeds finds a candidate on the die with all its pins ACTIVE, and none before it has both. -/
theorem firstPin_ok {n t : Nat} {slots : List Nat} {pins : List Pin} {cands : List Int} {k0 : Nat}
    (h : firstPin n t slots pins cands = .ok k0) :
    k0 + t ≤ n ∧ rowActive pins slots k0 = true
    ∧ ∃ before after, cands = before ++ (k0 : Int) :: after
      ∧ ∀ k ∈ before, ¬ (onDie n t k = true ∧ rowActive pins slots k.toNat = true) := by
  unfold firstPin at h
  split at h
  · next k hfind =>
    cases h
    obtain ⟨hk, before, after, rfl, hbefore⟩ := List.find?_eq_some_iff_append.mp hfind
    rw [Bool.and_eq_true, onDie_iff] at hk
    obtain ⟨⟨m, rfl, hm⟩, hrow⟩ := hk
    exact ⟨hm, hrow, before, after, rfl, fun k hk ⟨h1, h2⟩ => by simpa [h1, h2] using hbefore k hk⟩
  · split at h <;> cases h

/-- The pin search over the candidates within reach of the die's pins (R37). -/
theorem firstPin_cases {n t : Nat} {slots : List Nat} {pins : List Pin} {cands : List Int} {near : Nat → Prop}
    (hnear : ∀ k : Nat, near k ↔ k + t ≤ n ∧ (k : Int) ∈ cands) :
    ((∃ k, near k ∧ rowActive pins slots k = true) ∧ ∃ k0, firstPin n t slots pins cands = .ok k0)
    ∨ ((∃ k, near k) ∧ (∀ k, ¬ (near k ∧ rowActive pins slots k = true))
        ∧ firstPin n t slots pins cands = .error .pinUnavailable)
    ∨ ((∀ k, ¬ near k) ∧ firstPin n t slots pins cands = .error .outOfReach) := by
  have hany : cands.any (onDie n t) = true ↔ ∃ k, near k := by
    rw [List.any_eq_true]
    constructor
    · rintro ⟨k, hk, hon⟩
      obtain ⟨m, rfl, hm⟩ := (onDie_iff n t k).mp hon
      exact ⟨m, (hnear m).mpr ⟨hm, hk⟩⟩
    · rintro ⟨k, hk⟩
      obtain ⟨hm, hmem⟩ := (hnear k).mp hk
      exact ⟨k, hmem, (onDie_iff n t k).mpr ⟨k, rfl, hm⟩⟩
  unfold firstPin
  split
  · next k hfind =>
    obtain ⟨hk, hmem⟩ := And.intro (List.find?_some hfind) (List.mem_of_find?_eq_some hfind)
    rw [Bool.and_eq_true, onDie_iff] at hk
    obtain ⟨⟨m, rfl, hm⟩, hrow⟩ := hk
    exact .inl ⟨⟨m, (hnear m).mpr ⟨hm, hmem⟩, hrow⟩, _, rfl⟩
  · next hfind =>
    have hnone (k : Nat) : ¬ (near k ∧ rowActive pins slots k = true) := by
      rintro ⟨hk, hrow⟩
      obtain ⟨hm, hmem⟩ := (hnear k).mp hk
      have hon : onDie n t (k : Int) = true := (onDie_iff n t k).mpr ⟨k, rfl, hm⟩
      simpa [hon, hrow] using List.find?_eq_none.mp hfind k hmem
    split
    · next h => exact .inr (.inl ⟨hany.mp h, hnone, rfl⟩)
    · next h => exact .inr (.inr ⟨fun k hk => h (hany.mpr ⟨k, hk⟩), rfl⟩)

/-- The candidates that the search of a sheet examines. -/
def PlanInput.candidates (i : PlanInput) (e : Edges) (t : Nat) : List Int :=
  Machine.candidates (doubledSlot e t i.format.p 0) i.die.d0 i.format.p

/-- The pin search of a sheet (R37). -/
def PlanInput.firstPin (i : PlanInput) (e : Edges) (t : Nat) : Except Reason Nat :=
  Machine.firstPin i.die.n t (holeSlots i.format t) i.pins (i.candidates e t)

/-- The punched plan of a first pin (R41). -/
def PlanInput.punched (i : PlanInput) (e : Edges) (t k0 : Nat) (notch : Option Nat) : PunchPlan :=
  { t := t, slots := holeSlots i.format t, k0 := k0
    shift := carriageShift (doubledSlot e t i.format.p 0) i.die.d0 i.format.p k0
    pins := (holeSlots i.format t).map fun j => k0 + j, notch := notch }

/-- The failure of the notch check of a sheet (R39). -/
def PlanInput.notchFault (i : PlanInput) (e : Edges) : Option Reason :=
  Machine.notchFault i.die.notch e.centre i.sheet.caliper

theorem leafRoute_drill_iff (leaf : Leaf) (lift : Nat) : leafRoute leaf lift = .drill ↔ lift < leaf.caliper := by
  unfold leafRoute
  split <;> simp_all

/-- A board's plan (R42). -/
theorem planPattern_board {i : PlanInput} (e : Edges) (t : Nat) (h : i.die.maxLift < i.leaf.caliper) :
    planPattern i e t = .ok (.board
      { t := t, slots := holeSlots i.format t
        holes := holeList e t i.format.p (holeSlots i.format t) i.book.hanger i.leaf.role }) := by
  simp [planPattern, (leafRoute_drill_iff _ _).mpr h]

/-- A punched sheet whose row is longer than the die (R34). -/
theorem planPattern_long {i : PlanInput} (e : Edges) (t : Nat) (h : i.leaf.caliper ≤ i.die.maxLift) (ht : i.die.n < t) :
    planPattern i e t = .error .outOfReach := by
  have hroute : ¬ leafRoute i.leaf i.die.maxLift = .drill := fun hd => by
    have := (leafRoute_drill_iff _ _).mp hd
    omega
  simp [planPattern, hroute, ht]

/-- A punched sheet's plan: the pin search, then the notch (R37 to R39, R41). -/
theorem planPattern_punched {i : PlanInput} (e : Edges) (t : Nat) (h : i.leaf.caliper ≤ i.die.maxLift)
    (ht : t ≤ i.die.n) :
    planPattern i e t =
      match i.firstPin e t with
      | .error r => .error r
      | .ok k0 =>
        if i.leaf.notch then
          match i.notchFault e with
          | some r => .error r
          | none => .ok (.punched (i.punched e t k0 (some e.centre)))
        else .ok (.punched (i.punched e t k0 none)) := by
  have hroute : ¬ leafRoute i.leaf i.die.maxLift = .drill := fun hd => by
    have := (leafRoute_drill_iff _ _).mp hd
    omega
  unfold planPattern
  rw [if_neg hroute, if_neg (by omega)]
  rfl

theorem notchFault_eq_noNotch {tool : Option NotchTool} {c : Nat} {m : Option Nat} :
    notchFault tool c m = some .noNotch ↔ tool = none := by
  unfold notchFault
  repeat' split
  all_goals simp

theorem notchFault_eq_notchReach {tool : Option NotchTool} {c : Nat} {m : Option Nat} :
    notchFault tool c m = some .notchReach ↔ ∃ x, tool = some x
      ∧ (c < x.reachMin ∨ x.reachMax < c ∨ ∃ u, m = some u ∧ x.maxCaliper < u) := by
  cases tool with
  | none => simp [notchFault]
  | some x =>
    simp only [notchFault, Option.some.injEq, exists_eq_left']
    split
    · next h =>
      simp only [true_iff]
      exact h.elim .inl fun h => .inr (.inl h)
    · next h =>
      have hlow : ¬ c < x.reachMin := fun hc => h (.inl hc)
      have hhigh : ¬ x.reachMax < c := fun hc => h (.inr hc)
      cases m with
      | none => simp [hlow, hhigh]
      | some u => simp [hlow, hhigh]

theorem notchFault_eq_none {tool : Option NotchTool} {c : Nat} {m : Option Nat} :
    notchFault tool c m = none ↔ ∃ x, tool = some x ∧ x.reachMin ≤ c ∧ c ≤ x.reachMax
      ∧ ∀ u, m = some u → u ≤ x.maxCaliper := by
  cases tool with
  | none => simp [notchFault]
  | some x =>
    simp only [notchFault, Option.some.injEq, exists_eq_left']
    split
    · next h =>
      simp only [reduceCtorEq, false_iff]
      omega
    · next h =>
      have hin : x.reachMin ≤ c ∧ c ≤ x.reachMax := by omega
      cases m with
      | none => simp [hin]
      | some u => simp [hin]

/-! ### The slot count of a plan -/

/-- The slot count of a sheet (R33): the book's where it has one, else the format's or the AUTO count. -/
theorem slotCount_eq_some {tBook : Option Nat} {f : Format} {n : Nat} {w : Int} {t : Nat} :
    slotCount tBook f n w = some t ↔ tBook = some t ∨ (tBook = none
      ∧ ((∃ gaps, f.mode = .fixed t gaps) ∨ (f.mode = .auto ∧ autoSlotCount f n w = some t))) := by
  cases tBook with
  | some u => simp [slotCount]
  | none => cases hmode : f.mode <;> simp [slotCount, hmode]

theorem slotCount_eq_none {tBook : Option Nat} {f : Format} {n : Nat} {w : Int} :
    slotCount tBook f n w = none ↔ tBook = none ∧ f.mode = .auto ∧ autoSlotCount f n w = none := by
  cases tBook with
  | some u => simp [slotCount]
  | none => cases hmode : f.mode <;> simp [slotCount, hmode]

/-- A plan that is made passed every check (R27). -/
theorem planSheet_ok {i : PlanInput} {body : PlanBody} (h : planSheet i = .ok body) :
    ∃ e t, i.sheet.edges = some e ∧ widthFails i.format e = false ∧ i.format.p = i.die.p
      ∧ slotCount i.book.tBook i.format i.die.n e.width = some t ∧ marginFails i.format t e.width = false
      ∧ planPattern i e t = .ok body := by
  have houtcome := planOutcome i
  rw [h] at houtcome
  cases houtcome with
  | placed e r he hwidth hskew hcaliper hmark hpitch hplaced =>
    obtain ⟨-, hr⟩ | ⟨t, hcount, ⟨-, hr⟩ | ⟨hmargin, hr⟩⟩ := hplaced
    · cases hr
    · cases hr
    · exact ⟨e, t, he, hwidth, hpitch, hcount, hmargin, hr.symm⟩

/-- A punched plan that is made is the plan of the first pin found, with the notch its leaf asks for. -/
theorem planPattern_ok_punched {i : PlanInput} {e : Edges} {t : Nat} {q : PunchPlan}
    (h : planPattern i e t = .ok (.punched q)) :
    i.leaf.caliper ≤ i.die.maxLift ∧ ∃ k0, i.firstPin e t = .ok k0
      ∧ ((i.leaf.notch = true ∧ i.notchFault e = none ∧ q = i.punched e t k0 (some e.centre))
        ∨ (i.leaf.notch = false ∧ q = i.punched e t k0 none)) := by
  by_cases hlift : i.die.maxLift < i.leaf.caliper
  · rw [planPattern_board e t hlift] at h
    cases h
  have hlift : i.leaf.caliper ≤ i.die.maxLift := Nat.not_lt.mp hlift
  refine ⟨hlift, ?_⟩
  by_cases ht : i.die.n < t
  · rw [planPattern_long e t hlift ht] at h
    cases h
  rw [planPattern_punched e t hlift (Nat.not_lt.mp ht)] at h
  split at h
  · cases h
  next k0 hfirst =>
  refine ⟨k0, hfirst, ?_⟩
  split at h
  · next hnotch =>
    split at h
    · cases h
    · next hfault =>
      cases h
      exact .inl ⟨hnotch, hfault, rfl⟩
  · next hnotch =>
    cases h
    exact .inr ⟨by simpa using hnotch, rfl⟩

theorem planPattern_ok_board {i : PlanInput} {e : Edges} {t : Nat} {q : BoardPlan}
    (h : planPattern i e t = .ok (.board q)) :
    i.die.maxLift < i.leaf.caliper
      ∧ q = { t := t, slots := holeSlots i.format t
              holes := holeList e t i.format.p (holeSlots i.format t) i.book.hanger i.leaf.role } := by
  by_cases hlift : i.die.maxLift < i.leaf.caliper
  · rw [planPattern_board e t hlift] at h
    cases h
    exact ⟨hlift, rfl⟩
  have hlift : i.leaf.caliper ≤ i.die.maxLift := Nat.not_lt.mp hlift
  exfalso
  by_cases ht : i.die.n < t
  · rw [planPattern_long e t hlift ht] at h
    cases h
  rw [planPattern_punched e t hlift (Nat.not_lt.mp ht)] at h
  repeat' split at h
  all_goals cases h

/-- The slot count of a plan is the count it was made with. -/
theorem planPattern_t {i : PlanInput} {e : Edges} {t : Nat} {body : PlanBody} (h : planPattern i e t = .ok body) :
    body.t = t := by
  cases body with
  | punched q =>
    obtain ⟨-, k0, -, ⟨-, -, rfl⟩ | ⟨-, rfl⟩⟩ := planPattern_ok_punched h <;> rfl
  | board q =>
    obtain ⟨-, rfl⟩ := planPattern_ok_board h
    rfl

/-- A plan keeps the slot count that its book has locked (R33, R40). -/
theorem planSheet_locked {i : PlanInput} {body : PlanBody} {t : Nat} (h : planSheet i = .ok body)
    (ht : i.book.tBook = some t) : body.t = t := by
  obtain ⟨e, t', -, -, -, hcount, -, hpattern⟩ := planSheet_ok h
  rw [planPattern_t hpattern]
  simpa [slotCount, ht, eq_comm] using hcount

/-- A plan is a board's exactly for a leaf that routes DRILL (R42). -/
theorem planSheet_route {i : PlanInput} {body : PlanBody} (h : planSheet i = .ok body) :
    leafRoute i.leaf i.die.maxLift = .drill ↔ ∃ q, body = .board q := by
  obtain ⟨e, t, -, -, -, -, -, hpattern⟩ := planSheet_ok h
  rw [leafRoute_drill_iff]
  cases body with
  | punched q =>
    have hlift := (planPattern_ok_punched hpattern).1
    simpa using hlift
  | board q => simpa using (planPattern_ok_board hpattern).1

/-! ### What every plan satisfies -/

/-- The doubled shift of a candidate pin, as R37 writes it out. -/
theorem doubledShift_doubledSlot (e : Edges) (t p d0 : Nat) (k : Int) :
    doubledShift (doubledSlot e t p 0) d0 p k =
      (e.l : Int) + e.r - ((t : Int) - 1) * p - 2 * d0 - 2 * k * p := by
  simp only [doubledShift, doubledSlot, Edges.sum]
  push_cast
  ring

theorem Int.natAbs_tdiv_two (d : Int) : (d.tdiv 2).natAbs = d.natAbs / 2 ∧ 0 ≤ d * d.tdiv 2 := by
  constructor
  · rw [Int.natAbs_tdiv]
    rfl
  · obtain h | h := Int.le_total 0 d
    · exact Int.mul_nonneg h (Int.tdiv_nonneg h (by decide))
    · obtain ⟨m, rfl⟩ := Int.exists_eq_neg_ofNat h
      rw [Int.neg_tdiv, Int.neg_mul_neg]
      exact Int.mul_nonneg (Int.natCast_nonneg m) (Int.tdiv_nonneg (Int.natCast_nonneg m) (by decide))

theorem marginFails_eq_false {f : Format} {t : Nat} {w : Int} :
    marginFails f t w = false ↔ 2 * (f.m : Int) ≤ w - ((t : Int) - 1) * f.p := by
  simp [marginFails]

/-- The pins that the pin search of a sheet may take: on the die and within the carriage's reach (R37). -/
theorem mem_candidates {i : PlanInput} (e : Edges) (t : Nat) (hp : 500 ≤ i.format.p) (k : Nat) :
    (k : Int) ∈ i.candidates e t ↔
      ((e.l : Int) + e.r - ((t : Int) - 1) * i.format.p - 2 * i.die.d0 - 2 * k * i.format.p).natAbs ≤ 1200 := by
  rw [PlanInput.candidates, (candidatesExamined _ i.die.d0 _ hp).1 k]
  exact iff_of_eq (congrArg (fun z : Int => z.natAbs ≤ 1200) (doubledShift_doubledSlot e t _ _ k))

/-- Settles O26: the pin search takes the first candidate that can be punched, in the order of nearness. -/
theorem punchedPlanSound : Obligations.PunchedPlanSound := by
  unfold Obligations.PunchedPlanSound
  intro i q hp hplan
  dsimp only
  obtain ⟨e, t, he, -, hpitch, hcount, hmargin, hpattern⟩ := planSheet_ok hplan
  obtain ⟨hlift, k0, hfirst, hnotch⟩ := planPattern_ok_punched hpattern
  obtain ⟨hdie, hrow, before, after, hsplit, hbefore⟩ := firstPin_ok hfirst
  have hq : ∃ notch, q = i.punched e t k0 notch := by
    obtain ⟨-, -, h⟩ | ⟨-, h⟩ := hnotch
    · exact ⟨_, h⟩
    · exact ⟨_, h⟩
  obtain ⟨notch, rfl⟩ := hq
  rw [← hpitch] at hp ⊢
  have hshift (k : Nat) := doubledShift_doubledSlot e t i.format.p i.die.d0 k
  have hmem := mem_candidates (i := i) e t hp
  let shift := doubledShift (doubledSlot e t i.format.p 0) i.die.d0 i.format.p
  have hsorted : (i.candidates e t).Pairwise fun a b =>
      (shift a).natAbs < (shift b).natAbs ∨ ((shift a).natAbs = (shift b).natAbs ∧ a < b) :=
    (candidatesExamined _ _ _ hp).2.1
  have hactive := (rowActive_iff _ _ _).mp hrow
  have hreach := (hmem k0).mp (by rw [hsplit]; simp)
  have hhalf := Int.natAbs_tdiv_two (doubledShift (doubledSlot e t i.format.p 0) i.die.d0 i.format.p k0)
  refine ⟨e, he, hlift, fun u hu => ?_, rfl, rfl, hdie, ?_, ?_, ?_, ?_, ?_, fun k hk hnear hpins => ?_, ?_, ?_, ?_⟩
  · simpa [slotCount, hu, eq_comm, PlanInput.punched] using hcount
  · simpa [PlanInput.punched] using hactive
  · simp only [PlanInput.punched, carriageShift]
    rw [hshift] at hhalf ⊢
    omega
  · simp only [PlanInput.punched, carriageShift]
    rw [hshift] at hhalf ⊢
    omega
  · simp only [PlanInput.punched, carriageShift]
    rw [hshift] at hhalf ⊢
    exact hhalf.1
  · simp only [PlanInput.punched, carriageShift]
    rw [hshift] at hhalf ⊢
    exact hhalf.2
  · have hkmem := (hmem k).mpr hnear
    have hknot : (k : Int) ∉ before := fun h =>
      hbefore k h ⟨(onDie_iff _ _ _).mpr ⟨k, rfl, hk⟩, (rowActive_iff _ _ _).mpr hpins⟩
    rw [hsplit, List.mem_append, List.mem_cons] at hkmem
    obtain h | h | h := hkmem
    · exact absurd h hknot
    · rw [Int.ofNat_inj.mp h]
      exact .inr ⟨rfl, Nat.le_refl _⟩
    · rw [hsplit] at hsorted
      have hlt := (List.pairwise_cons.mp (List.pairwise_append.mp hsorted).2.1).1 k h
      simp only [shift, hshift] at hlt
      exact hlt.imp_right fun h => ⟨h.1, Int.ofNat_le.mp h.2.le⟩
  · exact marginFails_eq_false.mp hmargin
  · obtain ⟨hyes, -⟩ | ⟨-, h⟩ := hnotch
    · simp [hyes]
    · exact fun _ => congrArg PunchPlan.notch h
  · obtain ⟨-, hfault, h⟩ | ⟨hno, -⟩ := hnotch
    · exact fun _ => ⟨congrArg PunchPlan.notch h, notchFault_eq_none.mp hfault⟩
    · simp [hno]

/-- Half positions of the slots of a row that keeps its margins lie on the sheet (R34, R36). -/
theorem slot_on_sheet {l r t p j : Nat} (hmargin : 0 ≤ (r : Int) - l - ((t : Int) - 1) * p) (hj : j < t) :
    l ≤ (((l : Int) + r + (2 * (j : Int) - t + 1) * p) / 2).toNat
      ∧ (((l : Int) + r + (2 * (j : Int) - t + 1) * p) / 2).toNat ≤ r := by
  have hlow : -(((t : Int) - 1) * p) ≤ (2 * (j : Int) - t + 1) * p := by
    rw [← Int.neg_mul]
    exact Int.mul_le_mul_of_nonneg_right (by omega) (by omega)
  have hhigh : (2 * (j : Int) - t + 1) * p ≤ ((t : Int) - 1) * p :=
    Int.mul_le_mul_of_nonneg_right (by omega) (by omega)
  omega

/-- Settles O27. -/
theorem boardPlanSound : Obligations.BoardPlanSound := by
  unfold Obligations.BoardPlanSound
  intro i q hplan
  -- the statement reads the slots as whole numbers through the list monad
  have hslots (l : List Nat) : (do let a ← l; pure (a : Int) : List Int) = l.map fun a : Nat => (a : Int) := by
    simp [List.map_eq_flatMap]
  simp only [hslots, List.map_map, Function.comp_def]
  obtain ⟨e, t, he, hwidth, hpitch, hcount, hmargin, hpattern⟩ := planSheet_ok hplan
  obtain ⟨hlift, rfl⟩ := planPattern_ok_board hpattern
  have hordered : e.l < e.r := by
    by_contra h
    simp [(widthFails_iff _ _).mpr (.inl (Nat.not_lt.mp h))] at hwidth
  have hmargin : 0 ≤ (e.r : Int) - e.l - ((t : Int) - 1) * i.format.p := by
    have := marginFails_eq_false.mp hmargin
    simp only [Edges.width] at this
    omega
  set row := (holeSlots i.format t).map fun j : Nat =>
    (((e.l : Int) + e.r + (2 * (j : Int) - t + 1) * i.format.p) / 2).toNat with hrow
  have hholes : holeList e t i.format.p (holeSlots i.format t) i.book.hanger i.leaf.role =
      if i.book.hanger = .drilled ∧ i.leaf.role = .back ∧ (e.l + e.r) / 2 ∉ row then row ++ [(e.l + e.r) / 2] else row := by
    simp only [holeList, List.contains_iff_mem, Edges.centre]
    rfl
  have hin (hu : Nat) (h : hu ∈ row) : e.l ≤ hu ∧ hu ≤ e.r := by
    obtain ⟨j, hj, rfl⟩ := List.mem_map.mp h
    exact slot_on_sheet hmargin ((mem_holeSlots _ _ _).mp hj).1
  refine ⟨e, he, hlift, fun u hu => ?_, rfl, ?_, ?_, ?_⟩
  · simpa [slotCount, hu, eq_comm] using hcount
  · dsimp only
    rw [hholes]
    split
    · next h => exact .inr ⟨rfl, h⟩
    · exact .inl rfl
  · intro hdrilled hback
    dsimp only
    rw [hholes]
    split
    · simp
    · next h => exact by_contra fun hno => h ⟨hdrilled, hback, hno⟩
  · dsimp only
    rw [hholes]
    intro hu hmem
    split at hmem
    · obtain hmem | hmem := List.mem_append.mp hmem
      · exact hin hu hmem
      · rw [List.mem_singleton.mp hmem]
        omega
    · exact hin hu hmem

/-! ### When a plan fails with its later reasons -/

/-- A pin on the die within the carriage's reach (R37). -/
def PlanInput.Near (i : PlanInput) (e : Edges) (t k : Nat) : Prop :=
  k + t ≤ i.die.n
    ∧ ((e.l : Int) + e.r - ((t : Int) - 1) * i.format.p - 2 * i.die.d0 - 2 * k * i.format.p).natAbs ≤ 1200

/-- The failures of a punched sheet's plan, by what the pin search and the notch check find (R37, R39). -/
theorem planPattern_reasons {i : PlanInput} (e : Edges) (t : Nat) (hp : 500 ≤ i.format.p)
    (hlift : i.leaf.caliper ≤ i.die.maxLift) :
    let valid (k : Nat) := i.Near e t k ∧ rowActive i.pins (holeSlots i.format t) k = true
    (planPattern i e t = .error .outOfReach ↔ ∀ k, ¬ i.Near e t k)
    ∧ (planPattern i e t = .error .pinUnavailable ↔ (∃ k, i.Near e t k) ∧ ∀ k, ¬ valid k)
    ∧ (planPattern i e t = .error .noNotch ↔
        (∃ k, valid k) ∧ i.leaf.notch = true ∧ i.notchFault e = some .noNotch)
    ∧ (planPattern i e t = .error .notchReach ↔
        (∃ k, valid k) ∧ i.leaf.notch = true ∧ i.notchFault e = some .notchReach)
    ∧ ((∃ k, valid k) → (i.leaf.notch = true → i.notchFault e = none) →
        ∃ q, planPattern i e t = .ok (.punched q)) := by
  intro valid
  have hsearch := firstPin_cases (n := i.die.n) (t := t) (slots := holeSlots i.format t) (pins := i.pins)
    (near := i.Near e t) fun k => and_congr_right fun _ => (mem_candidates e t hp k).symm
  by_cases ht : i.die.n < t
  · have hno (k : Nat) : ¬ i.Near e t k := fun h => by
      have := h.1
      omega
    simp [planPattern_long e t hlift ht, valid, hno]
  rw [planPattern_punched e t hlift (Nat.not_lt.mp ht)]
  obtain ⟨⟨k, hk⟩, k0, h⟩ | ⟨⟨k, hk⟩, hno, h⟩ | ⟨hno, h⟩ := hsearch
  · have hvalid : ∃ k, valid k := ⟨k, hk⟩
    have hnear : ∃ k, i.Near e t k := ⟨k, hk.1⟩
    have hfirst : i.firstPin e t = .ok k0 := h
    have hnot : ¬ ∀ k, ¬ i.Near e t k := not_forall_not.mpr hnear
    have hnot' : ¬ ∀ k, ¬ valid k := not_forall_not.mpr hvalid
    cases hnotch : i.leaf.notch with
    | false => simp only [hfirst, hvalid, hnear, hnot, hnot']; simp
    | true =>
      cases hfault : i.notchFault e with
      | none => simp only [hfirst, hvalid, hnear, hnot, hnot']; simp
      | some r =>
        have hr : r = .noNotch ∨ r = .notchReach := notchFault_reason hfault
        obtain rfl | rfl := hr <;> simp only [hfirst, hvalid, hnear, hnot, hnot'] <;> simp
  · have hnear : ∃ k, i.Near e t k := ⟨k, hk⟩
    have hfirst : i.firstPin e t = .error .pinUnavailable := h
    have hno : ∀ k, ¬ valid k := hno
    simp only [hfirst]
    simp [hno, hnear]
  · have hfirst : i.firstPin e t = .error .outOfReach := h
    simp only [hfirst]
    simp [hno, valid]

/-- Settles O22: past its first eight reasons a plan turns on its slot count, the margins, the pin search and the notch. -/
theorem placementReasons : Obligations.PlacementReasons := by
  unfold Obligations.PlacementReasons
  intro i e hp he hearly
  dsimp only
  have houtcome := planOutcome i
  generalize planSheet i = outcome at houtcome hearly ⊢
  cases houtcome with
  | noGauge | width | skew | pitch => exact absurd rfl (hearly _ (by simp))
  | caliper e he hwidth hskew r hcaliper =>
    obtain ⟨c, -, ⟨rfl, -⟩ | ⟨rfl, -⟩⟩ := caliperFault_eq_some.mp hcaliper <;> exact absurd rfl (hearly _ (by simp))
  | mark e he hwidth hskew hcaliper r hmark =>
    obtain ⟨rfl, -⟩ | ⟨rfl, -⟩ := markFault_eq_some.mp hmark <;> exact absurd rfl (hearly _ (by simp))
  | placed e' r he' hwidth hskew hcaliper hmark hpitch hplaced =>
  obtain rfl : e' = e := by
    rw [he] at he'
    cases he'
    rfl
  simp only [← hpitch]
  rw [← hpitch] at hp
  have hcount (t : Nat) := slotCount_eq_some (tBook := i.book.tBook) (f := i.format) (n := i.die.n) (w := e'.width) (t := t)
  have hnarrow (t : Nat) : (e'.r : Int) - e'.l - ((t : Int) - 1) * i.format.p < 2 * (i.format.m : Int)
      ↔ marginFails i.format t e'.width = true := by
    unfold marginFails Edges.width
    rw [decide_eq_true_iff]
  have hw : (e'.r : Int) - e'.l = e'.width := rfl
  have hnone := slotCount_eq_none (tBook := i.book.tBook) (f := i.format) (n := i.die.n) (w := e'.width)
  simp only [hnarrow]
  simp only [hw, ← hcount, ← hnone]
  have hmargin (t : Nat) : planPattern i e' t ≠ .error .margin := fun h => by
    have := planPattern_error h
    simp at this
  constructor
  · obtain ⟨h, rfl⟩ | ⟨t, ht, ⟨hm, rfl⟩ | ⟨hm, rfl⟩⟩ := hplaced
    · simp [h]
    · simp [ht, hm]
    · simp [ht, hm, hmargin]
  · intro t ht hm
    have hpattern : outcome = planPattern i e' t := by
      obtain ⟨h, -⟩ | ⟨u, hu, ⟨hf, -⟩ | ⟨-, h⟩⟩ := hplaced
      · rw [h] at ht
        cases ht
      · rw [ht] at hu
        cases hu
        exact absurd hf hm
      · rw [ht] at hu
        cases hu
        exact h
    rw [hpattern]
    refine ⟨fun hlift => ⟨_, planPattern_board e' t hlift, rfl⟩, fun hlift => ?_⟩
    have hreasons := planPattern_reasons e' t hp hlift
    simp only [PlanInput.Near, rowActive_iff, PlanInput.notchFault, notchFault_eq_noNotch, notchFault_eq_notchReach,
      notchFault_eq_none, Edges.centre] at hreasons
    obtain ⟨hreach, hpins, hnone, hlimits, hmade⟩ := hreasons
    exact ⟨hreach, hpins, hnone, hlimits, fun q h => planPattern_t h, hmade⟩

end Sys2Proof.Machine
end

section
/-! PROOFS. Law 10: one board at most at the DRILL station, in agreement with the Drill Controller (R118). -/

namespace Sys2Proof.Machine

open Sys2Proof.Safety

/-! ### The inputs of a plan -/

theorem State.die?_eq_some {s : State} {d : DieRecord} : s.die? = some d ↔ ∃ m, s.die.iface = .mounted d m := by
  unfold State.die?
  split
  · next d' m h => simp [h]
  · next hno => simpa using fun m h => hno d m h

/-- A plan is made from the book, the die, the format and the leaf that its sheet leads to (R26). -/
theorem State.planInput_eq_some {s : State} {x : Sheet} {i : PlanInput} (h : s.planInput x = some i) :
    s.book? x.book = some i.book ∧ s.die.iface = .mounted i.die i.pins ∧ s.format? i.book.slot = some i.format
      ∧ i.book.leaves[x.leaf - 1]? = some i.leaf ∧ i.sheet = x := by
  unfold State.planInput at h
  split at h
  · next b d m hb hdie =>
    split at h
    · next f leaf hf hleaf =>
      cases h
      exact ⟨hb, hdie, hf, hleaf, rfl⟩
    · cases h
  · cases h

theorem State.planInput_of {s : State} {x : Sheet} {b : Book} {d : DieRecord} {f : Format} {leaf : Leaf}
    (hb : s.book? x.book = some b) (hdie : s.die? = some d) (hf : s.format? b.slot = some f)
    (hleaf : b.leaves[x.leaf - 1]? = some leaf) :
    ∃ i, s.planInput x = some i ∧ i.leaf = leaf ∧ i.die = d := by
  obtain ⟨m, hm⟩ := State.die?_eq_some.mp hdie
  exact ⟨{ sheet := x, leaf := leaf, book := b, format := f, die := d, pins := m }, by
    simp [State.planInput, hb, hm, hf, hleaf], rfl, rfl⟩

/-! ### The boards on their way -/

/-- A record bound for the DRILL station. -/
def boardsAt (x : Option Sheet) : Nat := x.toList.countP fun y => y.route == .drill

/-- The boards at the DRILL station and bound for it in the track. -/
def Track.boards (t : Track) : Nat :=
  t.lane.countP (·.away) + boardsAt t.notch + boardsAt t.punch + boardsAt t.reg

/-- The leaf that the standing permit carries routes DRILL. -/
def State.permitBoards (s : State) : Nat :=
  match (s.track.permit.bind fun p => s.book? p.book).bind fun b => b.leaves[b.arrived]? with
  | some leaf => if s.routesDrill leaf then 1 else 0
  | none => 0

theorem boardsBound_eq (s : State) : boardsBound s = s.track.boards + s.permitBoards := rfl

theorem State.permitBoards_none {s : State} (h : s.track.permit = none) : s.permitBoards = 0 := by
  simp [State.permitBoards, h]

theorem State.permitBoards_some {s : State} {p : Permit} {b : Book} {leaf : Leaf} (hp : s.track.permit = some p)
    (hb : s.book? p.book = some b) (hleaf : b.leaves[b.arrived]? = some leaf) :
    s.permitBoards = if s.routesDrill leaf then 1 else 0 := by
  simp [State.permitBoards, hp, hb, hleaf]

/-- The line runs or drains. -/
def State.Live (s : State) : Prop := s.line.mode = .running ∨ s.line.mode = .draining

/-- The line is at rest, with the track empty. -/
def State.Rests (s : State) : Prop := s.line.mode = .noDie ∨ s.line.mode = .ready

theorem State.Live.not_rests {s : State} (h : s.Live) : ¬ s.Rests := by
  rintro (hr | hr) <;> obtain hl | hl := h <;> rw [hr] at hl <;> cases hl

/-- Law 10 with what carries it, over the records that a sheet's book id leads to. -/
structure Station (s : State) : Prop where
  idle : DrillIdleEmpty s
  bound : s.track.boards + s.permitBoards ≤ 1
  away : s.track.lane.countP (·.away) = if s.drill.board.isSome then 1 else 0
  permit : ∀ p, s.track.permit = some p →
    s.Live ∧ ∃ b ∈ s.books, b.id = p.book ∧ b.arrived < b.leaves.length ∧ p.leaf = b.arrived + 1
  reg : s.Live → ∀ x, s.track.reg = some x → x.route ≠ .reject → ∀ b ∈ s.books, ∀ leaf d, b.id = x.book →
    (s.format? b.slot).isSome = true → b.leaves[x.leaf - 1]? = some leaf → s.die? = some d →
    x.route = leafRoute leaf d.maxLift
  rest : s.Rests → s.track.count = 0

theorem stationAgrees_iff {s : State} (hids : IdsDistinct (s.books.map (·.id))) : StationAgrees s ↔ Station s := by
  constructor
  · rintro ⟨hidle, hbound, haway, hpermit, hreg, hrest⟩
    refine ⟨hidle, hbound, haway, hpermit, fun hlive x hx hroute b hb leaf d hid hf hleaf hd => ?_, hrest⟩
    obtain ⟨f, hf⟩ := Option.isSome_iff_exists.mp hf
    obtain ⟨i, hi, rfl, rfl⟩ := State.planInput_of (hid ▸ hids.book? hb) hd hf hleaf
    exact hreg hlive x i hx hroute hi
  · rintro ⟨hidle, hbound, haway, hpermit, hreg, hrest⟩
    refine ⟨hidle, hbound, haway, hpermit, fun hlive x i hx hroute hi => ?_, hrest⟩
    obtain ⟨hb, hd, hf, hleaf, -⟩ := State.planInput_eq_some hi
    exact hreg hlive x hx hroute _ (State.mem_of_book? hb) _ _ (State.book?_id hb) (by simp [hf]) hleaf
      (State.die?_eq_some.mpr ⟨_, hd⟩)

/-! ### What leaves the station's books and boards -/

/-- Nothing arrives, is permitted or goes to the DRILL station: the records keep slot, leaves and arrived count, the
permit's book stays, and a sheet at REG keeps its route or is rejected. -/
structure Carried (s t : State) : Prop where
  books : ∀ c ∈ t.books, ∃ b ∈ s.books, b.id = c.id ∧ b.slot = c.slot ∧ b.leaves = c.leaves ∧ b.arrived = c.arrived := by
    exact fun c hc => ⟨c, hc, rfl, rfl, rfl, rfl⟩
  permitBook : ∀ p, t.track.permit = some p → ∀ b ∈ s.books, b.id = p.book → ∃ c ∈ t.books, c.id = p.book := by
    exact fun _ _ b hb hid => ⟨b, hb, hid⟩
  formats : t.formats = s.formats := by rfl
  die : t.die? = s.die? := by rfl
  permit : t.track.permit = none ∨ t.track.permit = s.track.permit := by exact .inr rfl
  reg : ∀ x, t.track.reg = some x → x.route ≠ .reject →
      ∃ y, s.track.reg = some y ∧ y.book = x.book ∧ y.leaf = x.leaf ∧ y.route = x.route := by
    exact fun x hx _ => ⟨x, hx, rfl, rfl, rfl⟩
  boards : t.track.boards ≤ s.track.boards := by exact Nat.le_refl _

theorem State.format?_congr {s t : State} (h : t.formats = s.formats) (slot : Nat) : t.format? slot = s.format? slot := by
  simp [State.format?, h]

theorem State.routesDrill_congr {s t : State} (h : t.die? = s.die?) (leaf : Leaf) :
    t.routesDrill leaf = s.routesDrill leaf := by
  simp [State.routesDrill, h]

theorem Carried.permitBoards {s t : State} (hc : Carried s t) (hs : Station s) (hids : IdsDistinct (s.books.map (·.id)))
    (hids' : IdsDistinct (t.books.map (·.id))) : t.permitBoards ≤ s.permitBoards := by
  obtain hnone | hsame := hc.permit
  · simp [State.permitBoards_none hnone]
  cases hp : t.track.permit with
  | none => simp [State.permitBoards_none hp]
  | some p =>
    have hp' : s.track.permit = some p := by rw [← hsame, hp]
    obtain ⟨-, b, hb, hid, hroom, -⟩ := hs.permit p hp'
    obtain ⟨c, hcm, hcid⟩ := hc.permitBook p hp b hb hid
    obtain ⟨b', hb', hid', -, hleaves, harrived⟩ := hc.books c hcm
    obtain rfl : b' = b := hids.eq hb' hb (by rw [hid', hcid, hid])
    have hleaf := List.getElem?_eq_getElem hroom
    rw [State.permitBoards_some hp (hcid ▸ hids'.book? hcm) (by rw [← hleaves, ← harrived]; exact hleaf),
      State.permitBoards_some hp' (hid ▸ hids.book? hb) hleaf, State.routesDrill_congr hc.die]

/-- The station's agreement after a change that carries its books and boards. -/
theorem Station.carry {s t : State} (hs : Station s) (hids : IdsDistinct (s.books.map (·.id)))
    (hids' : IdsDistinct (t.books.map (·.id))) (hc : Carried s t) (hidle : DrillIdleEmpty t)
    (haway : t.track.lane.countP (·.away) = if t.drill.board.isSome then 1 else 0)
    (hlive : t.track.permit ≠ none → s.Live → t.Live) (hreg : t.Live → s.Live ∨ t.track.reg = none)
    (hrest : t.Rests → t.track.count = 0) : Station t := by
  refine ⟨hidle, ?_, haway, fun p hp => ?_, fun hl x hx hroute c hcm leaf d hid hf hleaf hd => ?_, hrest⟩
  · have hpermit := hc.permitBoards hs hids hids'
    have hboards := hc.boards
    have hbound := hs.bound
    omega
  · have hp' : s.track.permit = some p := by
      obtain hnone | hsame := hc.permit
      · rw [hnone] at hp
        cases hp
      · rw [← hsame, hp]
    obtain ⟨hl, b, hb, hid, hroom, hnext⟩ := hs.permit p hp'
    obtain ⟨c, hcm, hcid⟩ := hc.permitBook p hp b hb hid
    obtain ⟨b', hb', hid', -, hleaves, harrived⟩ := hc.books c hcm
    obtain rfl : b' = b := hids.eq hb' hb (by rw [hid', hcid, hid])
    exact ⟨hlive (by simp [hp]) hl, c, hcm, hcid, by rw [← hleaves, ← harrived]; exact hroom, by rw [← harrived]; exact hnext⟩
  · obtain hl' | hnone := hreg hl
    · obtain ⟨y, hy, hbook, hleafNo, hyroute⟩ := hc.reg x hx hroute
      obtain ⟨b, hb, hid', hslot, hleaves, -⟩ := hc.books c hcm
      rw [← hyroute]
      exact hs.reg hl' y hy (by rw [hyroute]; exact hroute) b hb leaf d (by rw [hid', hid, hbook])
        (by rw [hslot, ← State.format?_congr hc.formats]; exact hf) (by rw [hleaves, hleafNo]; exact hleaf)
        (by rw [← hc.die]; exact hd)
    · rw [hnone] at hx
      cases hx

/-- The same with the line state and the Drill Controller left alone. -/
theorem Station.keep {s t : State} (hs : Station s) (hids : IdsDistinct (s.books.map (·.id)))
    (hids' : IdsDistinct (t.books.map (·.id))) (hc : Carried s t) (hmode : t.line.mode = s.line.mode)
    (hdrill : t.drill = s.drill) (haway : t.track.lane.countP (·.away) = s.track.lane.countP (·.away))
    (hcount : s.track.count = 0 → t.track.count = 0) : Station t := by
  have hlive : t.Live ↔ s.Live := by simp [State.Live, hmode]
  have hrests : t.Rests ↔ s.Rests := by simp [State.Rests, hmode]
  exact hs.carry hids hids' hc (by rw [DrillIdleEmpty, hdrill]; exact hs.idle) (by rw [haway, hdrill]; exact hs.away)
    (fun _ => hlive.mpr) (fun hl => .inl (hlive.mp hl)) fun hr => hcount (hs.rest (hrests.mp hr))

/-! ### Carrying changes of the books and the track -/

/-- A change of one record that leaves id, slot, leaves and arrived count. -/
theorem changeBook_carries {id : Nat} {f : Book → Book} {books : List Book}
    (hf : ∀ b, (f b).id = b.id ∧ (f b).slot = b.slot ∧ (f b).leaves = b.leaves ∧ (f b).arrived = b.arrived) :
    (∀ c ∈ changeBook id f books,
      ∃ b ∈ books, b.id = c.id ∧ b.slot = c.slot ∧ b.leaves = c.leaves ∧ b.arrived = c.arrived)
    ∧ ∀ i, (∃ b ∈ books, b.id = i) → ∃ c ∈ changeBook id f books, c.id = i := by
  refine ⟨fun c hc => ?_, fun i hi => ?_⟩
  · obtain ⟨b, hb, rfl⟩ := mem_changeBook hc
    refine ⟨b, hb, ?_⟩
    split
    · obtain ⟨h1, h2, h3, h4⟩ := hf b
      exact ⟨h1.symm, h2.symm, h3.symm, h4.symm⟩
    · exact ⟨rfl, rfl, rfl, rfl⟩
  · obtain ⟨b, hb, hid⟩ := hi
    obtain ⟨c, hc, hcid, -⟩ := exists_changeBook (id := id) (P := fun _ => True) (Q := fun _ => True)
      (fun b => (hf b).1) (fun _ _ _ => trivial) ⟨b, hb, hid, trivial⟩
    exact ⟨c, hc, hcid⟩

theorem carried_updateBook {s : State} (id : Nat) (f : Book → Book)
    (hf : ∀ b, (f b).id = b.id ∧ (f b).slot = b.slot ∧ (f b).leaves = b.leaves ∧ (f b).arrived = b.arrived) :
    Carried s (s.updateBook id f) where
  books := (changeBook_carries hf).1
  permitBook := fun p _ b hb hid => (changeBook_carries hf).2 _ ⟨b, hb, hid⟩

theorem Carried.trans {s t u : State} (h : Carried s t) (h' : Carried t u) : Carried s u where
  books := fun c hc => by
    obtain ⟨b, hb, h1, h2, h3, h4⟩ := h'.books c hc
    obtain ⟨a, ha, g1, g2, g3, g4⟩ := h.books b hb
    exact ⟨a, ha, g1.trans h1, g2.trans h2, g3.trans h3, g4.trans h4⟩
  permitBook := fun p hp a ha hid => by
    have hp' : t.track.permit = some p := by
      obtain hnone | hsame := h'.permit
      · rw [hnone] at hp
        cases hp
      · rw [← hsame, hp]
    obtain ⟨b, hb, hbid⟩ := h.permitBook p hp' a ha hid
    exact h'.permitBook p hp b hb hbid
  formats := h'.formats.trans h.formats
  die := h'.die.trans h.die
  permit := by
    obtain hnone | hsame := h'.permit
    · exact .inl hnone
    · rw [hsame]
      exact h.permit
  reg := fun x hx hroute => by
    obtain ⟨y, hy, h1, h2, h3⟩ := h'.reg x hx hroute
    obtain ⟨z, hz, g1, g2, g3⟩ := h.reg y hy (by rw [h3]; exact hroute)
    exact ⟨z, hz, g1.trans h1, g2.trans h2, g3.trans h3⟩
  boards := h'.boards.trans h.boards

theorem carried_sweep (s : State) : Carried s s.sweep where
  books := fun c hc => ⟨c, (s.mem_sweep c |>.mp hc).1, rfl, rfl, rfl, rfl⟩
  permitBook := fun p hp b hb hid => by
    refine ⟨b, (s.mem_sweep b).mpr ⟨hb, ?_⟩, hid⟩
    have hp : s.track.permit = some p := hp
    simp [State.removable, Track.permitFor, hp, hid]

theorem boardsAt_map_le (x : Option Sheet) (f : Sheet → Sheet) (hf : ∀ y, (f y).route = .drill → y.route = .drill) :
    boardsAt (x.map f) ≤ boardsAt x := by
  cases x with
  | none => exact Nat.le_refl _
  | some y =>
    by_cases h : (f y).route = .drill
    · simp [boardsAt, h, hf y h]
    · simp [boardsAt, h]

theorem Sheet.condemnFor_cases (id : Nat) (x : Sheet) :
    Sheet.condemnFor id x = x ∨ (Sheet.condemnFor id x).route = .reject := by
  unfold Sheet.condemnFor Sheet.condemn
  split
  · split
    · exact .inl rfl
    · exact .inr rfl
  · exact .inl rfl

theorem carried_condemn (s : State) (id : Nat) : Carried s (s.setTrack (s.track.condemn id)) where
  reg := fun x hx hroute => by
    obtain ⟨y, hy, rfl⟩ := Option.map_eq_some_iff.mp hx
    obtain h | h := Sheet.condemnFor_cases id y
    · exact ⟨y, hy, by rw [h], by rw [h], by rw [h]⟩
    · exact absurd h hroute
  boards := by
    have hroute (y : Sheet) (h : (Sheet.condemnFor id y).route = .drill) : y.route = .drill := by
      obtain he | he := Sheet.condemnFor_cases id y
      · rwa [he] at h
      · rw [he] at h
        cases h
    have h1 := boardsAt_map_le s.track.reg _ hroute
    have h2 := boardsAt_map_le s.track.punch _ hroute
    have h3 := boardsAt_map_le s.track.notch _ hroute
    simp only [Track.boards, State.setTrack_track, Track.condemn]
    omega

theorem Track.Like.reg_some {t u : Track} (h : t.Like u) {x : Sheet} (hx : u.reg = some x) :
    ∃ y, t.reg = some y ∧ y.book = x.book ∧ y.leaf = x.leaf ∧ y.route = x.route := by
  have hreg := h.reg
  rw [hx] at hreg
  obtain ⟨y, hy, hgist⟩ := Option.map_eq_some_iff.mp hreg.symm
  simp only [Sheet.gist, Prod.mk.injEq] at hgist
  exact ⟨y, hy, hgist.2.1, hgist.2.2.1, hgist.2.2.2.1⟩

theorem boardsAt_congr {a b : Option Sheet} (h : b.map Sheet.gist = a.map Sheet.gist) : boardsAt b = boardsAt a := by
  cases a <;> cases b <;> simp_all [boardsAt, Sheet.gist]

theorem Track.Like.away {t u : Track} (h : t.Like u) : u.lane.countP (·.away) = t.lane.countP (·.away) := by
  have hlane := congrArg (List.countP fun g => g.2) h.lane
  simpa only [List.countP_map, Function.comp_def, LaneEntry.gist] using hlane

theorem Track.Like.boards {t u : Track} (h : t.Like u) : u.boards = t.boards := by
  simp only [Track.boards, h.away, boardsAt_congr h.reg, boardsAt_congr h.punch, boardsAt_congr h.notch]

theorem Track.count_eq_length_books (t : Track) : t.count = t.books.length := by
  simp [Track.count, Track.books]

/-! ### The moves of a spoil -/

/-- A halt leaves the board, its hole and its place, and the controller busy or not as it was (R127). -/
theorem Drill.halted_kept (d : Drill) : d.halted.board = d.board ∧ (d.halted.mode = .idle ↔ d.mode = .idle)
    ∧ d.halted.hole = d.hole ∧ d.halted.index = d.index := by
  unfold Drill.halted
  split
  · next hmode hole => exact ⟨rfl, by simp [hmode], rfl, rfl⟩
  · exact ⟨rfl, Iff.rfl, rfl, rfl⟩

theorem State.Alike.carried {s t : State} (h : s.Alike t) : Carried s t where
  books := h.books ▸ fun c hc => ⟨c, hc, rfl, rfl, rfl, rfl⟩
  permitBook := h.books ▸ fun _ _ b hb hid => ⟨b, hb, hid⟩
  formats := h.formats
  die := h.die
  permit := .inr (by rw [h.track])
  reg := h.track ▸ fun x hx _ => ⟨x, hx, rfl, rfl, rfl⟩
  boards := by rw [h.track]

theorem SpoilMove.station {r : Rank} {s t : State} (h : SpoilMove r s t) (hids : IdsDistinct (s.books.map (·.id)))
    (hs : Station s) : Station t := by
  have hids' : IdsDistinct (t.books.map (·.id)) := hids.sublist h.ids
  cases h with
  | elsewhere _ halike =>
    refine hs.carry hids hids' halike.carried ?_ ?_ ?_ ?_ ?_
    · simpa only [DrillIdleEmpty, halike.drillMode, halike.board, halike.hole, halike.index] using hs.idle
    · rw [halike.track, halike.board]
      exact hs.away
    · exact fun _ => by simp [State.Live, halike.line]
    · exact fun hl => .inl (by simpa [State.Live, halike.line] using hl)
    · rw [halike.track]
      exact fun hr => hs.rest (by simpa [State.Rests, halike.line] using hr)
  | sweep => exact hs.keep hids hids' (carried_sweep s) rfl rfl rfl id
  | markSpoiled id reason =>
    exact hs.keep hids hids' (carried_updateBook id _ fun _ => ⟨rfl, rfl, rfl, rfl⟩) rfl rfl rfl fun h => h
  | condemn id =>
    refine hs.keep hids hids' (carried_condemn s id) rfl rfl rfl fun h => ?_
    rw [Track.count_eq_length_books] at h ⊢
    rw [State.setTrack_track, Track.condemn_books]
    exact h
  | drillOn d hboard hmode hbusy =>
    have hbusy : s.drill.mode ≠ .idle := by
      obtain h | ⟨ms, h⟩ := hbusy
      · exact h
      · intro hidle
        simp [(hs.idle.2 hidle).1] at h
    have hsome : d.board ≠ none := by
      rw [hboard]
      exact fun h => hbusy (hs.idle.1.mpr h)
    refine hs.carry hids hids' {} ⟨⟨fun h => absurd h hmode, fun h => absurd h hsome⟩, fun h => absurd h hmode⟩ ?_
      (fun _ => id) .inl hs.rest
    simpa [hboard] using hs.away
  | finishBoard =>
    refine hs.carry hids hids' { boards := ?_ } ?_ ?_ (fun _ => id) .inl fun hr => ?_
    · simp [State.finishBoard, Track.boards, Track.boardBack, List.countP_map, Function.comp_def]
    · simp [DrillIdleEmpty, State.finishBoard, Drill.toIdle]
    · simp [State.finishBoard, Drill.toIdle, Track.boardBack, List.countP_map, Function.comp_def]
    · have hcount := hs.rest hr
      rw [Track.count_eq_length_books] at hcount ⊢
      exact (congrArg List.length s.track.boardBack_books).trans hcount
  | dumpTray id =>
    have hc : Carried s (s.updateBook id Book.dumpStack) := carried_updateBook id _ fun _ => ⟨rfl, rfl, rfl, rfl⟩
    exact hs.keep hids hids' (hc.trans {}) rfl rfl rfl fun h => h
  | note | emit | emitCut | idleFeeder | serve => exact hs.keep hids hids' {} rfl rfl rfl id

end Sys2Proof.Machine
end

section
/-! PROOFS. Law 10 over every move of the part (R118). -/

namespace Sys2Proof.Machine

open Sys2Proof.Safety

/-! ### The line at rest or halted -/

/-- No permit stands unless the line runs or drains (R65). -/
theorem Station.permit_none {s : State} (hs : Station s) (h : ¬ s.Live) : s.track.permit = none := by
  cases hp : s.track.permit with
  | none => rfl
  | some p => exact absurd (hs.permit p hp).1 h

theorem State.Rests.not_live {s : State} (h : s.Rests) : ¬ s.Live := fun hl => hl.not_rests h

theorem not_live_of_halted {s : State} (h : s.line.mode = .halted) : ¬ s.Live := by
  rintro (hl | hl) <;> rw [h] at hl <;> cases hl

/-- The agreement of a state in which nothing is permitted and no sheet waits at REG for its plan. -/
theorem station_unpermitted {t : State} (hidle : DrillIdleEmpty t) (hboards : t.track.boards ≤ 1)
    (haway : t.track.lane.countP (·.away) = if t.drill.board.isSome then 1 else 0) (hpermit : t.track.permit = none)
    (hreg : t.Live → t.track.reg = none) (hrest : t.Rests → t.track.count = 0) : Station t := by
  refine ⟨hidle, ?_, haway, fun p hp => ?_, fun hl x hx => ?_, hrest⟩
  · rw [State.permitBoards_none hpermit]
    exact hboards
  · rw [hpermit] at hp
    cases hp
  · rw [hreg hl] at hx
    cases hx

theorem Station.boards_le {s : State} (hs : Station s) : s.track.boards ≤ 1 :=
  (Nat.le_add_right _ _).trans hs.bound

theorem station_halt {s : State} (hidle : DrillIdleEmpty s) (hboards : s.track.boards ≤ 1)
    (haway : s.track.lane.countP (·.away) = if s.drill.board.isSome then 1 else 0)
    (hpermit : s.line.mode = .halted → s.track.permit = none) (c : HaltCause) : Station (s.halt c) := by
  obtain ⟨hmode, he⟩ | ⟨-, he⟩ := s.halt_cases c
  · rw [he]
    have hlive := not_live_of_halted hmode
    refine station_unpermitted hidle hboards haway (hpermit hmode) (fun hl => absurd hl hlive) ?_
    have hmode : (s.push (haltEvent c .halted)).line.mode = .halted := hmode
    rintro (hr | hr) <;> rw [hmode] at hr <;> cases hr
  · obtain ⟨hboard, hmode, hhole, hindex⟩ := s.drill.halted_kept
    rw [he]
    refine station_unpermitted ?_ hboards ?_ rfl ?_ ?_
    · change DrillIdleEmpty { s with drill := s.drill.halted }
      simpa only [DrillIdleEmpty, hboard, hmode, hhole, hindex] using hidle
    · change s.track.lane.countP (·.away) = if s.drill.halted.board.isSome then 1 else 0
      rw [hboard]
      exact haway
    · rintro (hl | hl) <;> cases hl
    · rintro (hr | hr) <;> cases hr

theorem Station.halt {s : State} (hs : Station s) (c : HaltCause) : Station (s.halt c) :=
  station_halt hs.idle hs.boards_le hs.away (fun h => hs.permit_none (not_live_of_halted h)) c

theorem Station.judgeDrainEnd {s : State} (hs : Station s) : Station s.judgeDrainEnd := by
  obtain ⟨-, he⟩ | ⟨-, hcount, hpermit, he⟩ := s.judgeDrainEnd_cases
  · rw [he]
    exact hs
  have hmode : ((s.lineTo .ready).holdClear).line.mode = .ready := by simp [State.lineTo_line]
  rw [he]
  refine station_unpermitted (by simpa [DrillIdleEmpty] using hs.idle) (by simpa using hs.boards_le)
    (by simpa using hs.away) (by simpa using hpermit) ?_ (fun _ => by simpa using hcount)
  rintro (hl | hl) <;> rw [hmode] at hl <;> cases hl

theorem Track.reg_none_of_count {t : Track} (h : t.count = 0) : t.reg = none := by
  cases hreg : t.reg with
  | none => rfl
  | some x => simp [Track.count, Track.sheets, hreg] at h

theorem Station.startRun {s : State} (hs : Station s) (hmode : s.line.mode = .ready) : Station s.startRun := by
  have hrests : s.Rests := .inr hmode
  have hlive : s.startRun.line.mode = .running := by simp [State.startRun, State.lineTo_line, Line.startWatch]
  have hcount := hs.rest hrests
  refine station_unpermitted (by simpa [DrillIdleEmpty] using hs.idle) (by simpa using hs.boards_le)
    (by simpa using hs.away) (by simpa using hs.permit_none hrests.not_live)
    (fun _ => by simpa using Track.reg_none_of_count hcount) (fun _ => by simpa using hcount)

theorem Station.mount {s : State} (hs : Station s) (hmodes : ModesAgree s) (d : DieRecord)
    (hiface : s.die.iface = .mounting) : Station (s.mount d) := by
  have hnone : s.die? = none := by simp [State.die?, hiface]
  have hnot : ¬ (s.line.mode = .ready ∨ s.Live) := by
    intro hm
    have := hmodes.die.1 (by simpa [State.Live] using hm)
    simp [hnone] at this
  have hmode : s.line.mode = .noDie ∨ s.line.mode = .halted := by
    cases hm : s.line.mode <;> simp_all [State.Live]
  have hline : (s.mount d).line.mode = .ready ∧ s.line.mode = .noDie ∨ (s.mount d).line.mode = .halted := by
    unfold State.mount
    obtain hm | hm := hmode <;> simp [hm, State.lineTo_line]
  refine station_unpermitted (by simpa [DrillIdleEmpty] using hs.idle) (by simpa using hs.boards_le)
    (by simpa using hs.away) (by simpa using hs.permit_none fun hl => hnot (.inr hl)) ?_ ?_
  · intro hl
    obtain ⟨hm, -⟩ | hm := hline
    · exact absurd (Or.inr hm) hl.not_rests
    · exact absurd hl (not_live_of_halted hm)
  · intro hr
    obtain ⟨-, hm⟩ | hm := hline
    · simpa using hs.rest (.inl hm)
    · rw [State.Rests, hm] at hr
      simp at hr

theorem Station.unmount {s : State} (hs : Station s) (d : DieRecord) (m : List Pin)
    (hiface : s.die.iface = .mounted d m) : Station s.contactOpens := by
  unfold State.contactOpens
  simp only [hiface]
  set u := (s.setDie { s.die with contact := false, iface := .empty }).push (plainEvent .dieRemoved 0 d.n) with hu
  have hline : u.line = s.line := rfl
  have hidle : DrillIdleEmpty u := hs.idle
  unfold State.dieGone
  split
  · next hm =>
    rw [hline] at hm
    have hrests : s.Rests := .inr hm
    have hmode : (u.lineTo .noDie).line.mode = .noDie := by rw [State.lineTo_line]
    refine station_unpermitted (by simpa [DrillIdleEmpty] using hidle) (by simpa [hu] using hs.boards_le)
      (by simpa [hu] using hs.away) (by simpa [hu] using hs.permit_none hrests.not_live) ?_
      (fun _ => by simpa [hu] using hs.rest hrests)
    intro hl
    exact absurd (Or.inl hmode) hl.not_rests
  · next hm =>
    rw [hline] at hm
    have hrests : s.Rests := .inl hm
    exact station_unpermitted hidle hs.boards_le hs.away (hs.permit_none hrests.not_live)
      (fun hl => absurd hl hrests.not_live) fun _ => hs.rest hrests
  · exact station_halt hidle hs.boards_le hs.away (fun h => hs.permit_none (not_live_of_halted h)) _

theorem station_stop (s : State) : Station s.stopLine := by
  obtain ⟨htrack, hdrill⟩ := s.stopLine_track
  have hempty : s.stopLine.track.count = 0 := by
    rw [htrack]
    rfl
  refine station_unpermitted (by simp [DrillIdleEmpty, hdrill, Drill.toIdle]) ?_ ?_ (by rw [htrack]; rfl)
    (fun _ => by rw [htrack]; rfl) fun _ => hempty
  · rw [htrack]
    decide
  · rw [htrack, hdrill]
    rfl

/-! ### Books and formats -/

/-- Records go that the permit does not need. -/
theorem carried_filter (s : State) (keep : Book → Bool)
    (hkeep : ∀ p, s.track.permit = some p → ∀ b ∈ s.books, b.id = p.book → keep b = true) :
    Carried s (s.setBooks (s.books.filter keep)) where
  books := fun c hc => ⟨c, (List.mem_filter.mp hc).1, rfl, rfl, rfl, rfl⟩
  permitBook := fun p hp b hb hid => ⟨b, List.mem_filter.mpr ⟨hb, hkeep p hp b hb hid⟩, hid⟩

theorem Station.removeQueued {s : State} (hs : Station s) (hids : IdsDistinct (s.books.map (·.id))) (id : Nat)
    (hpermit : s.track.permitFor id = false) : Station (s.removeBook id) := by
  refine hs.keep hids (hids.sublist (List.filter_sublist.map _)) (carried_filter s _ fun p hp b _ hid => ?_) rfl rfl rfl
    fun h => h
  have hne : p.book ≠ id := by simpa [Track.permitFor, hp] using hpermit
  simpa [hid] using hne

/-- A bound book is not the book of a permit: all its leaves have arrived (R65, R147). -/
theorem Station.bind {s : State} (hs : Station s) (hacc : s.Accounted) (id : Nat)
    (hclosing : s.closer.mode.book? = some id) :
    Station ((s.setBooks (s.books.filter fun b => !(b.id == id))).setCloser { s.closer with mode := .idle }) := by
  have hc : Carried s (s.setBooks (s.books.filter fun b => !(b.id == id))) := by
    refine carried_filter s _ fun p hp b hb hid => ?_
    obtain ⟨-, b', hb', hid', hroom, -⟩ := hs.permit p hp
    obtain rfl := hacc.ids.eq hb' hb (by rw [hid', hid])
    have hne : b'.id ≠ id := by
      rintro rfl
      obtain ⟨-, c, hcm, hcid, hfull⟩ := hacc.closing _ hclosing
      obtain rfl := hacc.ids.eq hcm hb hcid
      obtain ⟨hsum, -⟩ := hacc.counts c hcm
      omega
    simpa using hne
  exact hs.keep hacc.ids (hacc.ids.sublist (List.filter_sublist.map _)) (hc.trans {}) rfl rfl rfl fun h => h

theorem State.slotUses_zero {s : State} {slot : Nat} (h : s.slotUses slot = 0) {b : Book} (hb : b ∈ s.books) :
    b.slot ≠ slot := by
  simpa using List.countP_eq_zero.mp h b hb

theorem Station.setFormat {s : State} (hs : Station s) (slot : Nat) (f : Format) (hfree : s.slotUses slot = 0) :
    Station (s.setFormats (s.formats.set slot (some f))) := by
  refine ⟨hs.idle, hs.bound, hs.away, hs.permit, fun hl x hx hroute b hb leaf d hid hf => ?_, hs.rest⟩
  refine hs.reg hl x hx hroute b hb leaf d hid ?_
  have hne := State.slotUses_zero hfree hb
  have hsame : (s.setFormats (s.formats.set slot (some f))).format? b.slot = s.format? b.slot := by
    simp [State.format?, List.getD_eq_getElem?_getD, List.getElem?_set_ne (Ne.symm hne)]
  rwa [hsame] at hf

theorem Station.queueBook {s : State} (hs : Station s) (hacc : s.Accounted) (c : Book) (hnew : s.book? c.id = none)
    (hids' : IdsDistinct ((s.books ++ [c]).map (·.id))) : Station (s.setBooks (s.books ++ [c])) := by
  have hmore {b : Book} (hb : b ∈ s.books) : b ∈ s.books ++ [c] := List.mem_append_left _ hb
  refine ⟨hs.idle, ?_, hs.away, fun p hp => ?_, fun hl x hx hroute b hb leaf d hid hf => ?_, hs.rest⟩
  · have hsame : (s.setBooks (s.books ++ [c])).permitBoards = s.permitBoards := by
      cases hp : s.track.permit with
      | none => rw [State.permitBoards_none (by exact hp), State.permitBoards_none hp]
      | some p =>
        obtain ⟨-, b, hb, hid, hroom, -⟩ := hs.permit p hp
        have hleaf := List.getElem?_eq_getElem hroom
        have hb' := IdsDistinct.book? (s := s.setBooks (s.books ++ [c])) hids' (hmore hb)
        rw [State.permitBoards_some (by exact hp) (hid ▸ hb') hleaf, State.permitBoards_some hp (hid ▸ hacc.ids.book? hb) hleaf]
        rfl
    rw [hsame]
    exact hs.bound
  · obtain ⟨hl, b, hb, hrest⟩ := hs.permit p hp
    exact ⟨hl, b, hmore hb, hrest⟩
  · obtain hb | hb := List.mem_append.mp hb
    · exact hs.reg hl x hx hroute b hb leaf d hid hf
    · obtain rfl := List.mem_singleton.mp hb
      have hx : s.track.reg = some x := hx
      have hmem : x.book ∈ s.track.books := by simp [Track.books, Track.sheets, hx]
      obtain ⟨a, ha, haid, -⟩ := hacc.held _ hmem
      have := List.find?_eq_none.mp hnew a ha
      simp [haid, hid] at this

/-! ### The track -/

theorem Station.live_of_reg {s : State} (hs : Station s) (hmodes : ModesAgree s) {x : Sheet}
    (hx : s.track.reg = some x) (hmode : s.cycle.hold = .released ∨ s.line.mode = .ready) : s.Live := by
  obtain hhold | hready := hmode
  · exact hmodes.line.1.mp hhold
  · have := Track.reg_none_of_count (hs.rest (.inr hready))
    rw [hx] at this
    cases this

theorem boardsAt_none : boardsAt none = 0 := rfl

theorem boardsAt_some (x : Sheet) : boardsAt (some x) = if x.route = .drill then 1 else 0 := by
  by_cases h : x.route = .drill <;> simp [boardsAt, h]

/-- The records of the track move on, one record's counters may change, and no more boards are bound for the station. -/
theorem Station.moveOn {s : State} (hs : Station s) (hids : IdsDistinct (s.books.map (·.id))) (u : Track) (id : Nat)
    (f : Book → Book)
    (hf : ∀ b, (f b).id = b.id ∧ (f b).slot = b.slot ∧ (f b).leaves = b.leaves ∧ (f b).arrived = b.arrived)
    (hboards : u.boards ≤ s.track.boards) (hpermit : u.permit = s.track.permit)
    (haway : u.lane.countP (·.away) = s.track.lane.countP (·.away))
    (hreg : u.reg = none ∨ u.reg = s.track.reg) (hcount : s.track.count = 0 → u.count = 0) :
    Station ((s.setTrack u).updateBook id f) := by
  have hids' : IdsDistinct (((s.setTrack u).updateBook id f).books.map (·.id)) := by
    rw [State.updateBook_books, changeBook_ids _ _ _ fun b => (hf b).1]
    exact hids
  have hregs (x : Sheet) (hx : u.reg = some x) : s.track.reg = some x := by
    obtain h | h := hreg
    · rw [h] at hx
      cases hx
    · rw [← h]
      exact hx
  have hc : Carried s (s.setTrack u) :=
    { permit := .inr hpermit, reg := fun x hx _ => ⟨x, hregs x hx, rfl, rfl, rfl⟩, boards := hboards }
  exact hs.keep hids hids' (hc.trans (carried_updateBook id f hf)) rfl rfl haway hcount

theorem Station.moveTrack {s : State} (hs : Station s) (hids : IdsDistinct (s.books.map (·.id))) (u : Track)
    (hboards : u.boards ≤ s.track.boards) (hpermit : u.permit = s.track.permit)
    (haway : u.lane.countP (·.away) = s.track.lane.countP (·.away))
    (hreg : u.reg = none ∨ u.reg = s.track.reg) (hcount : s.track.count = 0 → u.count = 0) :
    Station (s.setTrack u) := by
  have h := hs.moveOn hids u 0 id (fun _ => ⟨rfl, rfl, rfl, rfl⟩) hboards hpermit haway hreg hcount
  have hsame : (s.setTrack u).updateBook 0 id = s.setTrack u := by
    have hbooks : (s.books.map fun b => if b.id = 0 then b else b) = s.books := by simp
    simp only [State.updateBook, State.setBooks, State.setTrack, id_eq, hbooks]
  rwa [hsame] at h

/-- The board leaves for the station that no board holds (R70, R119). -/
theorem Station.toDrill {s : State} (hs : Station s) (hids : IdsDistinct (s.books.map (·.id))) (x : Sheet) (d : Drill)
    (hx : s.track.notch = some x) (hroute : x.route = .drill) (hmode : d.mode ≠ .idle) (hboard : d.board.isSome = true) :
    Station ((s.setTrack { s.track with
      notch := none, diverter := .drill, lane := s.track.lane ++ [{ sheet := x, away := true }] }).setDrill d) := by
  have hbound := hs.boards_le
  simp only [Track.boards, boardsAt, hx, Option.toList_some, hroute, List.countP_cons, List.countP_nil] at hbound
  have hboards : Track.boards { s.track with
      notch := none, diverter := .drill, lane := s.track.lane ++ [{ sheet := x, away := true }] } = s.track.boards := by
    simp [Track.boards, boardsAt, hx, hroute]
  have hsome : d.board ≠ none := fun h => by simp [h] at hboard
  refine hs.carry hids hids { boards := hboards.le } ⟨⟨fun h => absurd h hmode, fun h => absurd h hsome⟩,
    fun h => absurd h hmode⟩ ?_ (fun _ => id) .inl fun hr => ?_
  · have hnone : s.track.lane.countP (·.away) = 0 := by
      simp at hbound
      omega
    simpa [hboard] using hnone
  · have := hs.rest hr
    simp [Track.count, Track.sheets, hx] at this

/-- The sheet planned for punching or drilling keeps the route of its leaf (R40, R42). -/
theorem Station.toPunchPlanned {s : State} (hs : Station s) (hids : IdsDistinct (s.books.map (·.id)))
    (hmodes : ModesAgree s) (x : Sheet) (i : PlanInput) (body : PlanBody) (route : Route) (hx : s.track.reg = some x)
    (hroute : x.route ≠ .reject) (hinput : s.planInput x = some i) (hplan : planSheet i = .ok body)
    (hbody : (route = .punch ∧ ∃ q, body = .punched q) ∨ (route = .drill ∧ ∃ q, body = .board q))
    (hmode : s.cycle.hold = .released ∨ s.line.mode = .ready) :
    Station ((s.setTrack { s.track with
        reg := none, punch := some { x with plan := some { state := .ready, body := body }, route := route } }).updateBook
      x.book fun b => { b with tBook := some body.t }) := by
  have hlive := hs.live_of_reg hmodes hx hmode
  obtain ⟨hb, hdie, hf, hleaf, -⟩ := State.planInput_eq_some hinput
  have hleafRoute := hs.reg hlive x hx hroute _ (State.mem_of_book? hb) i.leaf i.die (State.book?_id hb) (by simp [hf]) hleaf
    (State.die?_eq_some.mpr ⟨_, hdie⟩)
  have hdrill := planSheet_route hplan
  rw [← hleafRoute] at hdrill
  have hsame : route = .drill → x.route = .drill := by
    obtain ⟨rfl, -⟩ | ⟨rfl, hboard⟩ := hbody
    · exact fun h => by cases h
    · exact fun _ => hdrill.mpr hboard
  refine hs.moveOn hids _ x.book _ (fun _ => ⟨rfl, rfl, rfl, rfl⟩) ?_ rfl rfl (.inl rfl) fun h => ?_
  · have hle : (if route = .drill then 1 else 0) ≤ if x.route = .drill then 1 else 0 := by
      by_cases hd : route = .drill
      · simp [hd, hsame hd]
      · simp [hd]
    simp only [Track.boards, hx, boardsAt_some, boardsAt_none]
    omega
  · simp [Track.count, Track.sheets, hx] at h

/-- The sheet that a permit has let in has the route of its leaf (R46), and is counted at REG instead of under the
permit. -/
theorem Station.newcomer {s : State} (hs : Station s) (hids : IdsDistinct (s.books.map (·.id))) (p : Permit) (b : Book)
    (leaf : Leaf) (seq : Nat) (hpermit : s.track.permit = some p) (hb : s.book? p.book = some b)
    (hleaf : b.leaves[b.arrived]? = some leaf) :
    Station ((s.setTrack { s.track.noPermit with
      reg := some (newSheet seq b leaf (s.routeAtCreation b leaf)) }).updateBook b.id Book.arrive) := by
  obtain ⟨hlive, -⟩ := hs.permit p hpermit
  have hbound := hs.bound
  rw [State.permitBoards_some hpermit hb hleaf] at hbound
  have hroute : (s.routeAtCreation b leaf = .drill) → s.routesDrill leaf = true := by
    unfold State.routeAtCreation
    split
    · exact fun h => by cases h
    · split
      · next h => exact fun _ => h
      · exact fun h => by cases h
  refine ⟨hs.idle, ?_, hs.away, (fun q hq => by cases hq), ?_, fun hr => absurd hr hlive.not_rests⟩
  · rw [State.permitBoards_none rfl]
    have hle : boardsAt (some (newSheet seq b leaf (s.routeAtCreation b leaf)))
        ≤ if s.routesDrill leaf = true then 1 else 0 := by
      rw [boardsAt_some]
      by_cases hd : s.routeAtCreation b leaf = .drill
      · simp [newSheet, hd, hroute hd]
      · simp [newSheet, hd]
    change s.track.lane.countP (·.away) + boardsAt s.track.notch + boardsAt s.track.punch
      + boardsAt (some (newSheet seq b leaf (s.routeAtCreation b leaf))) + 0 ≤ 1
    simp only [Track.boards] at hbound
    omega
  · intro _ x hx hreject c hc leaf' d hcid hf hleaf' hd
    obtain rfl : newSheet seq b leaf (s.routeAtCreation b leaf) = x := by simpa using hx
    obtain ⟨a, ha, rfl⟩ := mem_changeBook hc
    have hab : a.id = b.id := by
      split at hcid
      · next h => exact h
      · exact hcid
    obtain rfl := hids.eq ha (State.mem_of_book? hb) hab
    have hd : s.die? = some d := hd
    have hleaf' : some leaf = some leaf' := by
      rw [if_pos rfl, Book.arrive_leaves] at hleaf'
      exact hleaf.symm.trans hleaf'
    cases hleaf'
    have hroutes : s.routesDrill leaf = (leafRoute leaf d.maxLift == .drill) := by simp [State.routesDrill, hd]
    change s.routeAtCreation a leaf = leafRoute leaf d.maxLift
    change s.routeAtCreation a leaf ≠ .reject at hreject
    unfold State.routeAtCreation at hreject ⊢
    rw [hroutes] at hreject ⊢
    split
    · next h => simp [h] at hreject
    · unfold leafRoute
      split <;> simp

/-- A permit is issued for a leaf that finds the station free, or goes elsewhere (R64). -/
theorem Station.issue {s : State} (hs : Station s) (hids : IdsDistinct (s.books.map (·.id))) (b : Book) (leaf : Leaf)
    (hexpected : s.expectedLeaf = some (b, leaf)) (hadmits : s.admits (s.routesDrill leaf) = true) :
    Station (s.setTrack { s.track with
      permit := some { book := b.id, leaf := b.arrived + 1 }, feedPermit := true }) := by
  simp only [State.admits, Bool.and_eq_true, decide_eq_true_eq, Option.isNone_iff_eq_none, beq_iff_eq, Bool.or_eq_true,
    Bool.not_eq_true'] at hadmits
  obtain ⟨⟨⟨hrunning, hreg⟩, -⟩, hfree⟩ := hadmits
  have hlive : s.Live := .inl hrunning
  have hbook : b ∈ s.books ∧ b.leaves[b.arrived]? = some leaf := by
    unfold State.expectedLeaf at hexpected
    split at hexpected
    · cases hexpected
    · next c hc =>
      obtain ⟨l, hl, he⟩ := Option.map_eq_some_iff.mp hexpected
      cases he
      exact ⟨List.mem_of_find?_eq_some hc, hl⟩
  obtain ⟨hb, hleaf⟩ := hbook
  refine ⟨hs.idle, ?_, hs.away, fun q hq => ?_, fun _ x hx => ?_, fun hr => absurd hr hlive.not_rests⟩
  · have hpermit := State.permitBoards_some (s := s.setTrack { s.track with
      permit := some { book := b.id, leaf := b.arrived + 1 }, feedPermit := true }) rfl (hids.book? hb) hleaf
    rw [hpermit]
    change s.track.boards + (if s.routesDrill leaf = true then 1 else 0) ≤ 1
    split
    · next hdrill =>
      obtain hno | ⟨hstation, hbound⟩ := hfree
      · rw [hno] at hdrill
        cases hdrill
      have haway : s.track.lane.countP (·.away) = 0 := by
        simpa [Track.stationEmpty, List.countP_eq_zero] using hstation
      have hplace (y : Option Sheet) (hy : y.any (fun x => x.route == .drill) = false) : boardsAt y = 0 := by
        cases y with
        | none => rfl
        | some y => simpa [boardsAt_some] using hy
      simp only [Track.drillBound, Bool.or_eq_false_iff] at hbound
      simp [Track.boards, haway, hreg, hplace _ hbound.1, hplace _ hbound.2, boardsAt_none]
    · exact hs.boards_le
  · cases hq
    exact ⟨hlive, b, hb, rfl, (List.getElem?_eq_some_iff.mp hleaf).1, rfl⟩
  · have hx : s.track.reg = some x := hx
    rw [hreg] at hx
    cases hx

theorem Move.station {r : Rank} {s t : State} (h : Move r s t) (hacc : s.Accounted) (hmodes : ModesAgree s)
    (hs : Station s) : Station t := by
  have hids := hacc.ids
  have hids' := h.idsDistinct hids
  have hupdate (id : Nat) (f : Book → Book)
      (hf : ∀ b, (f b).id = b.id ∧ (f b).slot = b.slot ∧ (f b).leaves = b.leaves ∧ (f b).arrived = b.arrived)
      {t : State} (hids' : IdsDistinct (t.books.map (·.id))) (hc : Carried (s.updateBook id f) t)
      (hline : t.line = s.line) (hdrill : t.drill = s.drill) (htrack : t.track = s.track) : Station t :=
    hs.keep hids hids' ((carried_updateBook id f hf).trans hc) (by rw [hline]) hdrill (by rw [htrack])
      (by rw [htrack]; exact fun h => h)
  cases h with
  | inner _ hinner => exact hinner.station hids hs
  | setFormat slot f hfree => exact hs.setFormat slot f hfree
  | queueBook id slot hanger leaves hroom hid hnew => exact hs.queueBook hacc (newBook id slot hanger leaves) hnew hids'
  | removeQueued id b hb hqueued hpermit => exact hs.removeQueued hids id hpermit
  | retouch u hlike =>
    refine hs.keep hids hids' { permit := .inr hlike.permit, reg := fun x hx _ => hlike.reg_some hx, boards := hlike.boards.le }
      rfl rfl hlike.away fun h => ?_
    rw [Track.count_eq_length_books] at h ⊢
    rw [State.setTrack_track, hlike.books]
    exact h
  | endPermit => exact hs.keep hids hids' { permit := .inl rfl } rfl rfl rfl fun h => h
  | newcomer p b leaf seq hpermit hb hleaf => exact hs.newcomer hids p b leaf seq hpermit hb hleaf
  | toBin x hx =>
    refine hs.moveOn hids _ _ _ (fun _ => ⟨rfl, rfl, rfl, rfl⟩) ?_ rfl rfl (.inr rfl) fun h => ?_
    · simp only [Track.boards, boardsAt_none]
      omega
    · simp [Track.count, Track.sheets, hx] at h
  | toLane x hx hroute =>
    refine hs.moveTrack hids _ ?_ rfl ?_ (.inr rfl) fun h => ?_
    · simp [Track.boards, boardsAt_none]
    · simp
    · simp [Track.count, Track.sheets, hx] at h
  | toDrill x d hx hroute hmode hboard => exact hs.toDrill hids x d hx hroute hmode hboard
  | toNotch x hx =>
    refine hs.moveTrack hids _ ?_ rfl rfl (.inr rfl) fun h => ?_
    · simp only [Track.boards, hx, boardsAt_none]
      omega
    · simp [Track.count, Track.sheets, hx] at h
  | toPunchRejected x y hx hy hbook hleaf =>
    refine hs.moveTrack hids _ ?_ rfl rfl (.inl rfl) fun h => ?_
    · simp only [Track.boards, hx, boardsAt_none, boardsAt_some, hy, reduceCtorEq, if_false]
      omega
    · simp [Track.count, Track.sheets, hx] at h
  | toPunchPlanned x i body route hx hroute hinput hplan hbody hmode =>
    exact hs.toPunchPlanned hids hmodes x i body route hx hroute hinput hplan hbody hmode
  | toPunchUnplanned x hx =>
    refine hs.moveTrack hids _ ?_ rfl rfl (.inl rfl) fun h => ?_
    · simp only [Track.boards, hx, boardsAt_none]
      omega
    · simp [Track.count, Track.sheets, hx] at h
  | issue b leaf hexpected hadmits => exact hs.issue hids b leaf hexpected hadmits
  | rejectAtPunch x y hx hy =>
    refine hs.moveTrack hids _ ?_ rfl rfl (.inr rfl) fun h => ?_
    · simp only [Track.boards, boardsAt_some, hy, reduceCtorEq, if_false]
      omega
    · simp [Track.count, Track.sheets, hx] at h
  | dump e rest hlane haway =>
    refine hs.moveOn hids _ _ _ (fun _ => ⟨rfl, rfl, rfl, rfl⟩) ?_ rfl ?_ (.inr rfl) fun h => ?_
    · simp [Track.boards, Track.popLane, hlane, haway]
    · simp [Track.popLane, hlane, haway]
    · simp [Track.count, Track.sheets, hlane] at h
  | lay e rest b hlane haway =>
    have hmoved := hs.moveOn hids s.track.popLane e.sheet.book (fun b => { b with stacked := b.stacked + 1 })
      (fun _ => ⟨rfl, rfl, rfl, rfl⟩) (by simp [Track.boards, Track.popLane, hlane, haway]) rfl
      (by simp [Track.popLane, hlane, haway]) (.inr rfl) (fun h => by simp [Track.count, Track.sheets, hlane] at h)
    exact hmoved.keep hids' hids' {} rfl rfl rfl fun h => h
  | complete id b htray hb hfull => 
    exact hupdate id (fun b => { b with state := .stacked }) (fun _ => ⟨rfl, rfl, rfl, rfl⟩) hids' {} rfl rfl rfl
  | startClose id loops b htray hcloser hcut hb limit hooks =>
    exact hupdate b.id (fun b => { b with state := .closing }) (fun _ => ⟨rfl, rfl, rfl, rfl⟩) hids' {} rfl rfl rfl
  | bind id hclosing => exact hs.bind hacc id hclosing
  | judgeDrainEnd => exact hs.judgeDrainEnd
  | toDraining hwas =>
    have hrunning := hmodes.running hwas
    have hmode : (s.stopWatch.lineTo .draining).line.mode = .draining := by rw [State.lineTo_line]
    refine hs.carry hids hids' ⟨?_, ?_, ?_, ?_, ?_, ?_, ?_⟩ ?_ ?_ (fun _ _ => .inr hmode) (fun _ => .inl (.inl hrunning)) fun hr => ?_
    · simpa using fun c hc => ⟨c, hc, rfl, rfl, rfl, rfl⟩
    · simpa using fun p _ b hb hid => ⟨b, hb, hid⟩
    · simp
    · simp [State.die?]
    · simp
    · simpa using fun x hx _ => ⟨x, hx, rfl, rfl, rfl⟩
    · simp
    · simpa [DrillIdleEmpty] using hs.idle
    · simpa using hs.away
    · rw [State.Rests, hmode] at hr
      simp at hr
  | halt c => exact hs.halt c
  | startRun hmode => exact hs.startRun hmode
  | watch l hmode => exact hs.keep hids hids' {} hmode rfl rfl fun h => h
  | mount d hiface => exact hs.mount hmodes d hiface
  | unmount d m hiface => exact hs.unmount d m hiface
  | stop => exact station_stop s
  | emitFire | dropNotices | refeed | count | startCycle | stage => exact hs.keep hids hids' {} rfl rfl rfl fun h => h

theorem Restarted.station {s t : State} (h : Restarted s t) : Station t := by
  obtain ⟨hmode, -, -, -, -, -, -, -, -, htrack, -, hdrill, -⟩ := h.fields
  refine station_unpermitted ?_ ?_ ?_ ?_ (fun _ => by rw [htrack]; rfl) (fun _ => by rw [htrack]; rfl)
  · rw [DrillIdleEmpty, hdrill]
    decide
  · rw [htrack]
    decide
  · rw [htrack, hdrill]
    rfl
  · rw [htrack]
    rfl

/-- Settles O8: every move keeps the station with the account of the sheets and the agreement of the modes, and a restart
brings all three about. -/
theorem oneBoardAtStationKept : Obligations.OneBoardAtStationKept := by
  unfold Obligations.OneBoardAtStationKept
  intro s t hacc hline hdie hs hstep
  rw [sheetsAccounted_iff] at hacc
  rw [stationAgrees_iff hacc.ids] at hs
  obtain ⟨hacc', -, hs'⟩ := step_keeps_of_moves (P := fun s => s.Accounted ∧ ModesAgree s ∧ Station s)
    (fun _ _ h => ⟨h.accounted, h.modesAgree, h.station⟩)
    (fun _ _ _ _ h => ⟨h.1, h.2.1.congr rfl rfl rfl rfl, h.2.2.keep h.1.ids h.1.ids {} rfl rfl rfl fun h => h⟩)
    (fun _ _ hmove h => ⟨hmove.accounted h.1, hmove.modesAgree h.2.1, hmove.station h.1 h.2.1 h.2.2⟩) s t
    ⟨hacc, ⟨hline, hdie⟩, hs⟩ hstep
  exact (stationAgrees_iff hacc'.ids).mpr hs'

end Sys2Proof.Machine
end

section
/-! PROOFS. Law 7: one slot count for each book, in its plans and in its wire (R40, R139). -/

namespace Sys2Proof.Machine

open Sys2Proof.Safety

/-! ### The locked slot counts -/

/-- The sheets past their plan point, from PUNCH on. -/
def Track.past (t : Track) : List Sheet := t.punch.toList ++ t.notch.toList ++ t.lane.map (·.sheet)

theorem Track.mem_sheets {t : Track} {x : Sheet} : x ∈ t.sheets ↔ t.reg = some x ∨ x ∈ t.past := by
  simp [Track.sheets, Track.past, eq_comm]

theorem Track.mem_past {t : Track} {x : Sheet} :
    x ∈ t.past ↔ t.punch = some x ∨ t.notch = some x ∨ ∃ e ∈ t.lane, e.sheet = x := by
  simp [Track.past, eq_comm]

/-- A sheet holds a plan of its book's one slot count. -/
def Planned (books : List Book) (x : Sheet) : Prop :=
  ∃ body, x.plan.map (·.body) = some body ∧ ∃ b ∈ books, b.id = x.book ∧ b.tBook = some body.t

/-- A record the feeder serves: the cut under way or ready is of its slot count. -/
def Feeder.Serves (f : Feeder) (id : Nat) (b : Book) : Prop :=
  0 < b.arrived ∧ b.tBook.isSome = true ∧ (∀ n ms, f = .feeding id n ms → b.tBook = some n)
    ∧ ∀ n, f = .cutReady id n → b.tBook = some n

/-- Law 7 over the records, the formats, the track, the tray, the feeder and the book being closed. -/
structure Locked (books : List Book) (formats : List (Option Format)) (track : Track) (tray : Tray) (feeder : Feeder)
    (closing : Option Nat) : Prop where
  planned : ∀ x ∈ track.past, x.route ≠ .reject → Planned books x
  lane : ∀ e ∈ track.lane, e.sheet.route ≠ .reject
  tray : ∀ id, tray.book? = some id → ∃ b ∈ books, b.id = id ∧ (0 < b.stacked ∧ b.tBook.isSome = true)
  served : ∀ id, feeder.book? = some id → ∃ b ∈ books, b.id = id ∧ feeder.Serves id b
  closing : ∀ id, closing = some id → feeder.book? ≠ some id ∧ ∃ b ∈ books, b.id = id ∧ b.tBook.isSome = true
  formats : ∀ b ∈ books, (formats.getD b.slot none).isSome = true
  leaves : ∀ x ∈ track.sheets, ∀ b ∈ books, b.id = x.book → 1 ≤ x.leaf ∧ x.leaf ≤ b.leaves.length

/-- Law 7 of a state. -/
abbrev State.Locked (s : State) : Prop :=
  Machine.Locked s.books s.formats s.track s.tray s.wire.feeder s.closer.mode.book?

theorem slotCountsAgree_iff (s : State) : SlotCountsAgree s ↔ s.Locked := by
  have hplanned (x : Sheet) : (∃ p b, x.plan = some p ∧ b ∈ s.books ∧ b.id = x.book ∧ b.tBook = some p.body.t)
      ↔ Planned s.books x := by
    constructor
    · rintro ⟨p, b, hp, hb, hid, ht⟩
      exact ⟨p.body, by simp [hp], b, hb, hid, ht⟩
    · rintro ⟨body, hbody, b, hb, hid, ht⟩
      obtain ⟨p, hp, rfl⟩ := Option.map_eq_some_iff.mp hbody
      exact ⟨p, b, hp, hb, hid, ht⟩
  constructor
  · rintro ⟨h1, h2, h3, h4, h5, h6, h7⟩
    exact ⟨fun x hx hr => (hplanned x).mp (h1 x hx hr), h2, h3, h4, h5, h6, h7⟩
  · rintro ⟨h1, h2, h3, h4, h5, h6, h7⟩
    exact ⟨fun x hx hr => (hplanned x).mpr (h1 x hx hr), h2, h3, h4, h5, h6, h7⟩

section
variable {books : List Book} {formats : List (Option Format)} {track : Track} {tray : Tray} {feeder : Feeder}
  {closing : Option Nat}

/-- One record is changed: its T_book stays once it is locked, and its stack may go from the tray alone. -/
theorem Locked.change (h : Locked books formats track tray feeder closing) (id : Nat) (f : Book → Book)
    (hid : ∀ b, (f b).id = b.id) (hleaves : ∀ b, (f b).leaves = b.leaves) (hslot : ∀ b, (f b).slot = b.slot)
    (harrived : ∀ b, b.arrived ≤ (f b).arrived)
    (hstacked : (∀ b, b.stacked ≤ (f b).stacked) ∨ tray.book? ≠ some id)
    (htBook : ∀ b ∈ books, b.id = id → ∀ t, b.tBook = some t → (f b).tBook = some t) :
    Locked (changeBook id f books) formats track tray feeder closing := by
  have htCount (b : Book) (hb : b ∈ books) (t : Nat) (ht : b.tBook = some t) :
      (if b.id = id then f b else b).tBook = some t := by
    split
    · next hbid => exact htBook b hb hbid t ht
    · exact ht
  have htSome (b : Book) (hb : b ∈ books) (ht : b.tBook.isSome = true) :
      (if b.id = id then f b else b).tBook.isSome = true := by
    obtain ⟨t, ht⟩ := Option.isSome_iff_exists.mp ht
    rw [htCount b hb t ht]
    rfl
  refine ⟨fun x hx hr => ?_, h.lane, fun i hi => ?_, fun i hi => ?_, fun i hi => ⟨(h.closing i hi).1, ?_⟩, fun c hc => ?_,
    fun x hx c hc hcid => ?_⟩
  · obtain ⟨body, hbody, hbook⟩ := h.planned x hx hr
    exact ⟨body, hbody, exists_changeBook hid (fun b hb ht => htCount b hb _ ht) hbook⟩
  · obtain ⟨b, hb, hbid, hpos, ht⟩ := h.tray i hi
    refine ⟨_, List.mem_map_of_mem hb, ?_, ?_, htSome b hb ht⟩
    · split
      · rw [hid, hbid]
      · exact hbid
    · split
      · next hbe =>
        obtain hle | hne := hstacked
        · exact lt_of_lt_of_le hpos (hle b)
        · exact absurd (by rw [hi, ← hbid, hbe]) hne
      · exact hpos
  · refine exists_changeBook hid (fun b hb hserves => ?_) (h.served i hi)
    obtain ⟨hpos, ht, hfeeding, hready⟩ := hserves
    refine ⟨?_, htSome b hb ht, fun n ms hn => htCount b hb n (hfeeding n ms hn), fun n hn => htCount b hb n (hready n hn)⟩
    split
    · exact lt_of_lt_of_le hpos (harrived b)
    · exact hpos
  · exact exists_changeBook hid (fun b hb ht => htSome b hb ht) (h.closing i hi).2
  · obtain ⟨b, hb, rfl⟩ := mem_changeBook hc
    split
    · rw [hslot]
      exact h.formats b hb
    · exact h.formats b hb
  · obtain ⟨b, hb, rfl⟩ := mem_changeBook hc
    split at hcid
    · next hbe =>
      rw [if_pos hbe, hleaves]
      exact h.leaves x hx b hb (by rw [← hid, hcid])
    · next hbe =>
      rw [if_neg hbe]
      exact h.leaves x hx b hb hcid

/-- A change of one record that leaves everything law 7 looks at. -/
theorem Locked.changeState (h : Locked books formats track tray feeder closing) (id : Nat) (f : Book → Book)
    (hf : ∀ b, (f b).id = b.id ∧ (f b).leaves = b.leaves ∧ (f b).slot = b.slot ∧ (f b).arrived = b.arrived
      ∧ b.stacked ≤ (f b).stacked ∧ (f b).tBook = b.tBook) :
    Locked (changeBook id f books) formats track tray feeder closing :=
  h.change id f (fun b => (hf b).1) (fun b => (hf b).2.1) (fun b => (hf b).2.2.1) (fun b => (hf b).2.2.2.1.ge)
    (.inl fun b => (hf b).2.2.2.2.1) fun b _ _ _ ht => (hf b).2.2.2.2.2.trans ht

/-- Records go that nothing holds. -/
theorem Locked.keep (h : Locked books formats track tray feeder closing) (keep : Book → Bool) {closing' : Option Nat}
    (hclosing : ∀ id, closing' = some id → closing = some id)
    (hkeep : ∀ b ∈ books, (∃ x ∈ track.sheets, x.book = b.id) ∨ tray.book? = some b.id ∨ feeder.book? = some b.id
      ∨ closing' = some b.id → keep b = true) :
    Locked (books.filter keep) formats track tray feeder closing' := by
  refine ⟨fun x hx hr => ?_, h.lane, fun i hi => ?_, fun i hi => ?_,
    fun i hi => ⟨(h.closing i (hclosing i hi)).1, ?_⟩, fun b hb => h.formats b (List.mem_filter.mp hb).1,
    fun x hx b hb => h.leaves x hx b (List.mem_filter.mp hb).1⟩
  · obtain ⟨body, hbody, hbook⟩ := h.planned x hx hr
    exact ⟨body, hbody, exists_filter
      (fun b hb hbid => hkeep b hb (.inl ⟨x, Track.mem_sheets.mpr (.inr hx), hbid.symm⟩)) hbook⟩
  · exact exists_filter (fun b hb hbid => hkeep b hb (.inr (.inl (hbid ▸ hi)))) (h.tray i hi)
  · exact exists_filter (fun b hb hbid => hkeep b hb (.inr (.inr (.inl (hbid ▸ hi))))) (h.served i hi)
  · exact exists_filter (fun b hb hbid => hkeep b hb (.inr (.inr (.inr (hbid ▸ hi))))) (h.closing i (hclosing i hi)).2

/-- The sheets of a new track come from the old one, rejected or with route and plan as they were. -/
structure Track.Follows (t u : Track) : Prop where
  past : ∀ x ∈ u.past, x.route ≠ .reject →
    ∃ y ∈ t.past, y.book = x.book ∧ y.route ≠ .reject ∧ y.plan.map (·.body) = x.plan.map (·.body)
  lane : ∀ e ∈ u.lane, e.sheet.route ≠ .reject
  sheets : ∀ x ∈ u.sheets, ∃ y ∈ t.sheets, y.book = x.book ∧ y.leaf = x.leaf

theorem Locked.follow (h : Locked books formats track tray feeder closing) {track' : Track}
    (hf : track.Follows track') : Locked books formats track' tray feeder closing := by
  refine ⟨fun x hx hr => ?_, hf.lane, h.tray, h.served, h.closing, h.formats, fun x hx b hb hbid => ?_⟩
  · obtain ⟨y, hy, hbook, hroute, hplan⟩ := hf.past x hx hr
    obtain ⟨body, hbody, hrest⟩ := h.planned y hy hroute
    exact ⟨body, by rw [← hplan, hbody], by rw [← hbook]; exact hrest⟩
  · obtain ⟨y, hy, hbook, hleaf⟩ := hf.sheets x hx
    rw [← hleaf]
    exact h.leaves y hy b hb (by rw [hbid, hbook])

/-- A track all of whose sheets stood in the old one. -/
theorem Track.follows_of_subset {t u : Track} (hpast : ∀ x ∈ u.past, x.route ≠ .reject → x ∈ t.past)
    (hlane : ∀ e ∈ u.lane, e.sheet.route ≠ .reject) (hsheets : ∀ x ∈ u.sheets, x ∈ t.sheets) : t.Follows u :=
  ⟨fun x hx hr => ⟨x, hpast x hx hr, rfl, hr, rfl⟩, hlane, fun x hx => ⟨x, hsheets x hx, rfl, rfl⟩⟩

/-- The tray changes to one that is empty or holds a book with a stack and a slot count. -/
theorem Locked.retray (h : Locked books formats track tray feeder closing) {tray' : Tray}
    (htray : ∀ id, tray'.book? = some id → ∃ b ∈ books, b.id = id ∧ (0 < b.stacked ∧ b.tBook.isSome = true)) :
    Locked books formats track tray' feeder closing :=
  ⟨h.planned, h.lane, htray, h.served, h.closing, h.formats, h.leaves⟩

/-- The feeder serves another book, or none. -/
theorem Locked.refeed (h : Locked books formats track tray feeder closing) {feeder' : Feeder}
    (hserved : ∀ id, feeder'.book? = some id → (∃ b ∈ books, b.id = id ∧ feeder'.Serves id b) ∧ closing ≠ some id) :
    Locked books formats track tray feeder' closing :=
  ⟨h.planned, h.lane, h.tray, fun id hid => (hserved id hid).1,
    fun id hid => ⟨fun hf => (hserved id hf).2 hid, (h.closing id hid).2⟩, h.formats, h.leaves⟩

end

/-! ### The track -/

theorem Track.Like.past {t u : Track} (h : t.Like u) : u.past.map Sheet.gist = t.past.map Sheet.gist := by
  have hplace {a b : Option Sheet} (he : b.map Sheet.gist = a.map Sheet.gist) :
      b.toList.map Sheet.gist = a.toList.map Sheet.gist := by
    cases a <;> cases b <;> simp_all
  have hlane : (u.lane.map (·.sheet)).map Sheet.gist = (t.lane.map (·.sheet)).map Sheet.gist := by
    have := congrArg (List.map fun g => g.1) h.lane
    simpa only [List.map_map, Function.comp_def, LaneEntry.gist] using this
  simp only [Track.past, List.map_append, hplace h.punch, hplace h.notch, hlane]

theorem Track.Like.sheets {t u : Track} (h : t.Like u) : u.sheets.map Sheet.gist = t.sheets.map Sheet.gist := by
  have hsheets (t : Track) : t.sheets = t.reg.toList ++ t.past := by simp [Track.sheets, Track.past]
  have hreg : u.reg.toList.map Sheet.gist = t.reg.toList.map Sheet.gist := by
    have := h.reg
    cases hu : u.reg <;> cases ht : t.reg <;> simp_all
  rw [hsheets, hsheets, List.map_append, List.map_append, hreg, h.past]

theorem Track.Like.follows {t u : Track} (h : t.Like u) (hlane : ∀ e ∈ t.lane, e.sheet.route ≠ .reject) :
    t.Follows u := by
  have hfind {l l' : List Sheet} (he : l'.map Sheet.gist = l.map Sheet.gist) {x : Sheet} (hx : x ∈ l') :
      ∃ y ∈ l, y.gist = x.gist := by
    have := List.mem_map_of_mem (f := Sheet.gist) hx
    rw [he] at this
    exact List.mem_map.mp this
  refine ⟨fun x hx hr => ?_, fun e he => ?_, fun x hx => ?_⟩
  · obtain ⟨y, hy, hgist⟩ := hfind h.past hx
    simp only [Sheet.gist, Prod.mk.injEq] at hgist
    exact ⟨y, hy, hgist.2.1, by rw [hgist.2.2.2.1]; exact hr, hgist.2.2.2.2⟩
  · have := List.mem_map_of_mem (f := LaneEntry.gist) he
    rw [h.lane] at this
    obtain ⟨e', he', hgist⟩ := List.mem_map.mp this
    simp only [LaneEntry.gist, Sheet.gist, Prod.mk.injEq] at hgist
    rw [← hgist.1.2.2.2.1]
    exact hlane e' he'
  · obtain ⟨y, hy, hgist⟩ := hfind h.sheets hx
    simp only [Sheet.gist, Prod.mk.injEq] at hgist
    exact ⟨y, hy, hgist.2.1, hgist.2.2.1⟩

theorem Sheet.condemnFor_leaf (id : Nat) (x : Sheet) : (Sheet.condemnFor id x).leaf = x.leaf := by
  unfold Sheet.condemnFor Sheet.condemn
  split
  · split <;> rfl
  · rfl

theorem Track.condemn_follows (t : Track) (id : Nat) (hlane : ∀ e ∈ t.lane, e.sheet.route ≠ .reject) :
    t.Follows (t.condemn id) := by
  have hpast (x : Sheet) (hx : x ∈ (t.condemn id).past) :
      ∃ y ∈ t.past, x = y ∨ x = Sheet.condemnFor id y := by
    obtain hx | hx | hx := Track.mem_past.mp hx
    · obtain ⟨y, hy, rfl⟩ := Option.map_eq_some_iff.mp hx
      exact ⟨y, Track.mem_past.mpr (.inl hy), .inr rfl⟩
    · obtain ⟨y, hy, rfl⟩ := Option.map_eq_some_iff.mp hx
      exact ⟨y, Track.mem_past.mpr (.inr (.inl hy)), .inr rfl⟩
    · exact ⟨x, Track.mem_past.mpr (.inr (.inr hx)), .inl rfl⟩
  refine ⟨fun x hx hr => ?_, hlane, fun x hx => ?_⟩
  · obtain ⟨y, hy, rfl | rfl⟩ := hpast x hx
    · exact ⟨x, hy, rfl, hr, rfl⟩
    · obtain h | h := Sheet.condemnFor_cases id y
      · rw [h] at hr ⊢
        exact ⟨y, hy, rfl, hr, rfl⟩
      · exact absurd h hr
  · obtain hx | hx := Track.mem_sheets.mp hx
    · obtain ⟨y, hy, rfl⟩ := Option.map_eq_some_iff.mp hx
      exact ⟨y, Track.mem_sheets.mpr (.inl hy), (Sheet.condemnFor_book id y).symm, (Sheet.condemnFor_leaf id y).symm⟩
    · obtain ⟨y, hy, rfl | rfl⟩ := hpast x hx
      · exact ⟨x, Track.mem_sheets.mpr (.inr hy), rfl, rfl⟩
      · exact ⟨y, Track.mem_sheets.mpr (.inr hy), (Sheet.condemnFor_book id y).symm, (Sheet.condemnFor_leaf id y).symm⟩

theorem Track.boardBack_follows (t : Track) (hlane : ∀ e ∈ t.lane, e.sheet.route ≠ .reject) : t.Follows t.boardBack := by
  have hsheets : t.boardBack.lane.map (·.sheet) = t.lane.map (·.sheet) := by simp [Track.boardBack]
  have hpast : t.boardBack.past = t.past := by simp only [Track.past, hsheets]; rfl
  have hall : t.boardBack.sheets = t.sheets := by simp only [Track.sheets, hsheets]; rfl
  refine Track.follows_of_subset (fun x hx _ => hpast ▸ hx) (fun e he => ?_) (fun x hx => hall ▸ hx)
  obtain ⟨e', he', rfl⟩ := List.mem_map.mp he
  exact hlane e' he'

/-! ### The moves of a spoil -/

/-- A sweep takes no record that law 7 needs (R19). -/
theorem State.Locked.sweep {s : State} (h : s.Locked) : s.sweep.Locked := by
  refine h.keep _ (fun _ => id) fun b _ hb => ?_
  obtain ⟨x, hx, hbook⟩ | hb | hb | hb := hb
  · have hholds : s.track.holdsBook b.id = true := List.any_eq_true.mpr ⟨x, hx, by simpa using hbook⟩
    simp [State.removable, hholds]
  · simp [State.removable, hb]
  · have hb : s.wire.feeder.book? = some b.id := hb
    simp [State.removable, hb]
  · have hb : s.closer.mode.book? = some b.id := hb
    simp [State.removable, hb]

theorem State.Locked.serve {s : State} (h : s.Locked) (hacc : s.Accounted) (b : Book) (w : Wire)
    (hb : s.book? b.id = some b)
    (hfor : (s.wire.feeder = .idle ∧ s.tray.book? = some b.id) ∨ s.wire.feeder = .waitingWire b.id)
    (hw : w.feeder = .feeding b.id (b.tBook.getD 0) (.running 0) ∨ w.feeder = .waitingWire b.id) :
    (s.setWire w).Locked := by
  have hmem := State.mem_of_book? hb
  have hbook : 0 < b.arrived ∧ b.tBook.isSome = true ∧ s.closer.mode.book? ≠ some b.id := by
    obtain ⟨-, htray⟩ | hwaiting := hfor
    · obtain ⟨c, hc, hcid, hpos, ht⟩ := h.tray b.id htray
      obtain rfl := hacc.ids.eq hc hmem hcid
      have hcounts := (hacc.counts c hc).1
      exact ⟨by omega, ht, fun hclosing => (hacc.closing _ hclosing).1 htray⟩
    · have hserved : s.wire.feeder.book? = some b.id := by rw [hwaiting]; rfl
      obtain ⟨c, hc, hcid, hpos, ht, -⟩ := h.served b.id hserved
      obtain rfl := hacc.ids.eq hc hmem hcid
      exact ⟨hpos, ht, fun hclosing => (h.closing _ hclosing).1 hserved⟩
  obtain ⟨hpos, ht, hclosing⟩ := hbook
  obtain ⟨n, hn⟩ := Option.isSome_iff_exists.mp ht
  refine h.refeed fun id hid => ?_
  obtain hw | hw := hw
  · rw [State.setWire_wire, hw] at hid ⊢
    cases hid
    refine ⟨⟨b, hmem, rfl, hpos, ht, fun n' ms he => ?_, fun n' he => by cases he⟩, hclosing⟩
    cases he
    simp [hn]
  · rw [State.setWire_wire, hw] at hid ⊢
    cases hid
    exact ⟨⟨b, hmem, rfl, hpos, ht, (fun n' ms he => by cases he), fun n' he => by cases he⟩, hclosing⟩

theorem SpoilMove.locked {r : Rank} {s t : State} (h : SpoilMove r s t) (hacc : s.Accounted) (hs : s.Locked) :
    t.Locked := by
  cases h with
  | elsewhere _ halike =>
    rw [State.Locked, halike.books, halike.formats, halike.track, halike.tray, halike.feeder, halike.closing]
    exact hs
  | sweep => exact hs.sweep
  | markSpoiled id reason => exact hs.changeState id _ fun _ => ⟨rfl, rfl, rfl, rfl, Nat.le_refl _, rfl⟩
  | condemn id => exact hs.follow (s.track.condemn_follows id hs.lane)
  | finishBoard => exact hs.follow (s.track.boardBack_follows hs.lane)
  | dumpTray id htray =>
    have hempty : Machine.Locked s.books s.formats s.track .empty s.wire.feeder s.closer.mode.book? :=
      hs.retray fun _ he => by cases he
    exact hempty.change id Book.dumpStack (fun _ => rfl) (fun _ => rfl) (fun _ => rfl) (fun _ => Nat.le_refl _)
      (.inr fun he => by cases he) fun b _ _ t ht => ht
  | idleFeeder => exact hs.refeed fun _ he => by cases he
  | serve b w hb hfor hw => exact hs.serve hacc b w hb hfor hw
  | note | emit | emitCut | drillOn => exact hs

end Sys2Proof.Machine
end

section
/-! PROOFS. Law 7 over every move of the part (R40, R139). -/

namespace Sys2Proof.Machine

open Sys2Proof.Safety

/-! ### Books, formats and the line -/

theorem State.Locked.setFormat {s : State} (h : s.Locked) (slot : Nat) (f : Format) :
    (s.setFormats (s.formats.set slot (some f))).Locked := by
  refine ⟨h.planned, h.lane, h.tray, h.served, h.closing, fun b hb => ?_, h.leaves⟩
  have hold := h.formats b hb
  simp only [State.setFormats_formats, List.getD_eq_getElem?_getD, List.getElem?_set] at hold ⊢
  split
  · next hslot =>
    split
    · rfl
    · next hlen =>
      subst hslot
      rw [List.getElem?_eq_none (by omega)] at hold
      cases hold
  · exact hold

theorem State.Locked.queueBook {s : State} (h : s.Locked) (hacc : s.Accounted) (c : Book) (hnew : s.book? c.id = none)
    (hformat : (s.format? c.slot).isSome = true) : (s.setBooks (s.books ++ [c])).Locked := by
  have hmore {i : Nat} {P : Book → Prop} (hi : ∃ b ∈ s.books, b.id = i ∧ P b) : ∃ b ∈ s.books ++ [c], b.id = i ∧ P b := by
    obtain ⟨b, hb, hrest⟩ := hi
    exact ⟨b, List.mem_append_left _ hb, hrest⟩
  refine ⟨fun x hx hr => ?_, h.lane, fun i hi => hmore (h.tray i hi), fun i hi => hmore (h.served i hi),
    fun i hi => ⟨(h.closing i hi).1, hmore (h.closing i hi).2⟩, fun b hb => ?_, fun x hx b hb hid => ?_⟩
  · obtain ⟨body, hbody, hbook⟩ := h.planned x hx hr
    exact ⟨body, hbody, hmore hbook⟩
  · obtain hb | hb := List.mem_append.mp hb
    · exact h.formats b hb
    · rw [List.mem_singleton.mp hb]
      exact hformat
  · obtain hb | hb := List.mem_append.mp hb
    · exact h.leaves x hx b hb hid
    · rw [List.mem_singleton.mp hb] at hid
      have hmem : x.book ∈ s.track.books := List.mem_map_of_mem hx
      obtain ⟨a, ha, haid, -⟩ := hacc.held _ hmem
      have := List.find?_eq_none.mp hnew a ha
      simp [haid, hid] at this

/-- A QUEUED record is served by nothing: no leaf of it has arrived (R14). -/
theorem State.Locked.removeQueued {s : State} (h : s.Locked) (hacc : s.Accounted) (id : Nat) (b : Book)
    (hb : s.book? id = some b) (hqueued : b.state = .queued) : (s.removeBook id).Locked := by
  obtain rfl := State.book?_id hb
  have hmem := State.mem_of_book? hb
  obtain ⟨hsum, hle, htwo, hzero⟩ := hacc.counts b hmem
  have harrived := hzero hqueued
  refine h.keep _ (fun _ => id) fun c _ hneed => ?_
  have hne : c.id ≠ b.id := by
    intro hid
    rw [hid] at hneed
    obtain ⟨x, hx, hbook⟩ | htray | hserved | hclosing := hneed
    · have : b.id ∈ s.track.books := hbook ▸ List.mem_map_of_mem hx
      have := List.count_pos_iff.mpr this
      omega
    · obtain ⟨a, ha, haid, hpos, -⟩ := h.tray _ htray
      obtain rfl := hacc.ids.eq ha hmem haid
      omega
    · obtain ⟨a, ha, haid, hpos, -⟩ := h.served _ hserved
      obtain rfl := hacc.ids.eq ha hmem haid
      omega
    · obtain ⟨-, a, ha, haid, hfull⟩ := hacc.closing _ hclosing
      obtain rfl := hacc.ids.eq ha hmem haid
      omega
  simpa using hne

/-- A bound book's record is held by nothing else (R147). -/
theorem State.Locked.bind {s : State} (h : s.Locked) (hacc : s.Accounted) (id : Nat)
    (hclosing : s.closer.mode.book? = some id) :
    ((s.setBooks (s.books.filter fun b => !(b.id == id))).setCloser { s.closer with mode := .idle }).Locked := by
  refine h.keep (closing' := none) _ (fun _ he => by cases he) fun c _ hneed => ?_
  obtain ⟨htray, hfull⟩ := hacc.closing id hclosing
  have hne : c.id ≠ id := by
    rintro rfl
    obtain ⟨x, hx, hbook⟩ | ht | hserved | hnone := hneed
    · exact hacc.not_mem_of_allStacked hfull (hbook ▸ List.mem_map_of_mem hx)
    · exact htray ht
    · exact (h.closing _ hclosing).1 hserved
    · cases hnone
  simpa using hne

theorem State.Locked.noPermit {s : State} (h : s.Locked) : (s.setTrack s.track.noPermit).Locked :=
  h.follow (Track.follows_of_subset (fun _ hx _ => hx) h.lane fun _ hx => hx)

theorem State.Locked.halt {s : State} (h : s.Locked) (c : HaltCause) : (s.halt c).Locked := by
  obtain ⟨-, he⟩ | ⟨-, he⟩ := s.halt_cases c
  · rw [he]
    exact h
  · rw [he]
    exact State.Locked.sweep (by exact h.noPermit)

theorem Track.cleared_follows (t : Track) : t.Follows Track.cleared :=
  Track.follows_of_subset (by simp [Track.past, Track.cleared]) (by simp [Track.cleared])
    (by simp [Track.sheets, Track.cleared])

theorem State.Locked.stop {s : State} (h : s.Locked) (hacc : s.Accounted) : s.stopLine.Locked := by
  have hclosing (i : Nat) (hi : s.closer.stopped.mode.book? = some i) : s.closer.mode.book? = some i := by
    unfold Closer.stopped at hi
    split at hi
    · cases hi
    · exact hi
  have hbooks : (s.stopBlocks.setCloser s.closer.stopped).books = s.books := by simp
  have htray : (s.stopBlocks.setCloser s.closer.stopped).tray = s.tray := by simp
  have hacc' : (s.stopBlocks.setCloser s.closer.stopped).Accounted := by
    have hempty := hacc.mono (track' := Track.cleared.books) List.nil_subperm
    rw [State.Accounted, hbooks, htray]
    exact ⟨hempty.ids, hempty.counts, hempty.held, hempty.complete, fun i hi => hempty.closing i (hclosing i hi)⟩
  have hcleared : (s.stopBlocks.setCloser s.closer.stopped).Locked := by
    have hempty := (h.follow s.track.cleared_follows).refeed (feeder' := .idle) fun _ he => by cases he
    have hformats : (s.stopBlocks.setCloser s.closer.stopped).formats = s.formats := by simp
    rw [State.Locked, hbooks, htray, hformats]
    exact ⟨hempty.planned, hempty.lane, hempty.tray, hempty.served, fun i hi => hempty.closing i (hclosing i hi),
      hempty.formats, hempty.leaves⟩
  obtain ⟨-, hpurged⟩ := (spoilMoves_purges (r := .cutting) (by decide) s.purged _).keeps
    (P := fun s => s.Accounted ∧ s.Locked) (fun _ _ hm hs => ⟨hm.accounted hs.1, hm.locked hs.1 hs.2⟩) ⟨hacc', hcleared⟩
  rw [State.stopLine]
  simp only [State.Locked, State.lineTo_frame]
  refine State.Locked.sweep ?_
  exact hpurged.retray fun _ he => by cases he

/-! ### The track -/

/-- A sheet admitted is of the next leaf of its book (R13, R46). -/
theorem State.Locked.newcomer {s : State} (h : s.Locked) (hacc : s.Accounted) (b : Book) (leaf : Leaf) (x : Sheet)
    (hb : b ∈ s.books) (hleaf : b.leaves[b.arrived]? = some leaf) (hbook : x.book = b.id) (hx : x.leaf = b.arrived + 1) :
    ((s.setTrack { s.track.noPermit with reg := some x }).updateBook b.id Book.arrive).Locked := by
  have harrive (b : Book) : b.arrive.slot = b.slot ∧ b.arrived ≤ b.arrive.arrived ∧ b.arrive.tBook = b.tBook := by
    unfold Book.arrive
    dsimp only
    split <;> simp
  obtain ⟨hplanned, hlane, htray, hserved, hclosing, hformats, hleaves⟩ :=
    h.change b.id Book.arrive Book.arrive_id Book.arrive_leaves (fun b => (harrive b).1) (fun b => (harrive b).2.1)
      (.inl fun b => (Book.arrive_stacked b).ge) fun b _ _ _ ht => (harrive b).2.2.trans ht
  refine ⟨hplanned, hlane, htray, hserved, hclosing, hformats, fun y hy c hc hcid => ?_⟩
  obtain hy | hy := Track.mem_sheets.mp hy
  · obtain rfl : x = y := by simpa using hy
    obtain ⟨a, ha, rfl⟩ := mem_changeBook hc
    have hab : a.id = b.id := by
      rw [hbook] at hcid
      split at hcid
      · next h => exact h
      · exact hcid
    obtain rfl := hacc.ids.eq ha hb hab
    have := (List.getElem?_eq_some_iff.mp hleaf).1
    rw [if_pos rfl, Book.arrive_leaves, hx]
    omega
  · exact hleaves y (Track.mem_sheets.mpr (.inr hy)) c hc hcid

/-- The records of the track move on, or leave it. -/
theorem Track.follows_of_places {t u : Track} (hlane : ∀ e ∈ u.lane, e.sheet.route ≠ .reject ∧ e.sheet ∈ t.past)
    (hpunch : ∀ x, u.punch = some x → x.route ≠ .reject → x ∈ t.past) (hnotch : ∀ x, u.notch = some x → x ∈ t.past)
    (hsheets : ∀ x, u.reg = some x ∨ u.punch = some x → ∃ y ∈ t.sheets, y.book = x.book ∧ y.leaf = x.leaf) :
    t.Follows u := by
  refine ⟨fun x hx hr => ?_, fun e he => (hlane e he).1, fun x hx => ?_⟩
  · refine ⟨x, ?_, rfl, hr, rfl⟩
    obtain hx | hx | ⟨e, he, rfl⟩ := Track.mem_past.mp hx
    · exact hpunch x hx hr
    · exact hnotch x hx
    · exact (hlane e he).2
  · obtain hx | hx := Track.mem_sheets.mp hx
    · exact hsheets x (.inl hx)
    · obtain hx | hx | ⟨e, he, rfl⟩ := Track.mem_past.mp hx
      · exact hsheets x (.inr hx)
      · exact ⟨x, Track.mem_sheets.mpr (.inr (hnotch x hx)), rfl, rfl⟩
      · exact ⟨_, Track.mem_sheets.mpr (.inr (hlane e he).2), rfl, rfl⟩

section
variable {t : Track} {x y : Sheet}

theorem Track.mem_past_punch (h : t.punch = some x) : x ∈ t.past := Track.mem_past.mpr (.inl h)

theorem Track.mem_past_notch (h : t.notch = some x) : x ∈ t.past := Track.mem_past.mpr (.inr (.inl h))

theorem Track.mem_past_lane {e : LaneEntry} (h : e ∈ t.lane) : e.sheet ∈ t.past :=
  Track.mem_past.mpr (.inr (.inr ⟨e, h, rfl⟩))

theorem Track.mem_sheets_of_place (h : t.reg = some x ∨ t.punch = some x) :
    ∃ y ∈ t.sheets, y.book = x.book ∧ y.leaf = x.leaf :=
  ⟨x, h.elim (fun h => Track.mem_sheets.mpr (.inl h)) fun h => Track.mem_sheets.mpr (.inr (Track.mem_past_punch h)), rfl, rfl⟩

theorem Track.follows_leaveNotch (hlane : ∀ e ∈ t.lane, e.sheet.route ≠ .reject) (d : Diverter) :
    t.Follows { t with notch := none, diverter := d } :=
  Track.follows_of_places (fun e he => ⟨hlane e he, Track.mem_past_lane he⟩) (fun _ hx _ => Track.mem_past_punch hx)
    (fun _ hx => by cases hx) fun _ hx => Track.mem_sheets_of_place hx

theorem Track.follows_joinLane (hlane : ∀ e ∈ t.lane, e.sheet.route ≠ .reject) (hx : t.notch = some x)
    (hroute : x.route ≠ .reject) (away : Bool) (d : Diverter) :
    t.Follows { t with notch := none, diverter := d, lane := t.lane ++ [{ sheet := x, away := away }] } := by
  refine Track.follows_of_places (fun e he => ?_) (fun _ hx _ => Track.mem_past_punch hx) (fun _ hx => by cases hx)
    fun _ hx => Track.mem_sheets_of_place hx
  obtain he | he := List.mem_append.mp he
  · exact ⟨hlane e he, Track.mem_past_lane he⟩
  · rw [List.mem_singleton.mp he]
    exact ⟨hroute, Track.mem_past_notch hx⟩

theorem Track.follows_toNotch (hlane : ∀ e ∈ t.lane, e.sheet.route ≠ .reject) (hx : t.punch = some x) :
    t.Follows { t with punch := none, notch := some x } :=
  Track.follows_of_places (fun e he => ⟨hlane e he, Track.mem_past_lane he⟩) (fun _ hy _ => by cases hy)
    (fun _ hy => by cases hy; exact Track.mem_past_punch hx)
    fun _ hy => hy.elim (fun h => Track.mem_sheets_of_place (.inl h)) fun h => by cases h

theorem Track.follows_toPunch (hlane : ∀ e ∈ t.lane, e.sheet.route ≠ .reject) (hx : t.reg = some x)
    (hy : y.route = .reject) (hbook : y.book = x.book) (hleaf : y.leaf = x.leaf) :
    t.Follows { t with reg := none, punch := some y } := by
  refine Track.follows_of_places (fun e he => ⟨hlane e he, Track.mem_past_lane he⟩) (fun z hz hr => ?_)
    (fun _ hz => Track.mem_past_notch hz) fun z hz => ?_
  · cases hz
    exact absurd hy hr
  · obtain hz | hz := hz
    · cases hz
    · cases hz
      exact ⟨x, Track.mem_sheets.mpr (.inl hx), hbook.symm, hleaf.symm⟩

theorem Track.follows_rejectAtPunch (hlane : ∀ e ∈ t.lane, e.sheet.route ≠ .reject) (hx : t.punch = some x)
    (hy : y.route = .reject) (hbook : y.book = x.book) (hleaf : y.leaf = x.leaf) :
    t.Follows { t with punch := some y } := by
  refine Track.follows_of_places (fun e he => ⟨hlane e he, Track.mem_past_lane he⟩) (fun z hz hr => ?_)
    (fun _ hz => Track.mem_past_notch hz) fun z hz => ?_
  · cases hz
    exact absurd hy hr
  · obtain hz | hz := hz
    · exact Track.mem_sheets_of_place (.inl hz)
    · cases hz
      exact ⟨x, Track.mem_sheets.mpr (.inr (Track.mem_past_punch hx)), hbook.symm, hleaf.symm⟩

theorem Track.follows_popLane (hlane : ∀ e ∈ t.lane, e.sheet.route ≠ .reject) : t.Follows t.popLane :=
  Track.follows_of_places
    (fun e he => ⟨hlane e (List.mem_of_mem_tail he), Track.mem_past_lane (List.mem_of_mem_tail he)⟩)
    (fun _ hx _ => Track.mem_past_punch hx) (fun _ hx => Track.mem_past_notch hx) fun _ hx => Track.mem_sheets_of_place hx

end

/-- The plan locks its book's slot count (R40). -/
theorem State.Locked.toPunchPlanned {s : State} (h : s.Locked) (hacc : s.Accounted) (x : Sheet) (i : PlanInput)
    (body : PlanBody) (route : Route) (hx : s.track.reg = some x) (hinput : s.planInput x = some i)
    (hplan : planSheet i = .ok body) :
    ((s.setTrack { s.track with
        reg := none, punch := some { x with plan := some { state := .ready, body := body }, route := route } }).updateBook
      x.book fun b => { b with tBook := some body.t }).Locked := by
  obtain ⟨hb, -⟩ := State.planInput_eq_some hinput
  have hlocked := h.change x.book (fun b => { b with tBook := some body.t }) (fun _ => rfl) (fun _ => rfl) (fun _ => rfl)
    (fun _ => Nat.le_refl _) (.inl fun _ => Nat.le_refl _) fun b hbm hbid t ht => by
      obtain rfl := hacc.ids.eq hbm (State.mem_of_book? hb) (by rw [hbid, State.book?_id hb])
      exact congrArg some (planSheet_locked hplan ht)
  obtain ⟨hplanned, hlane, htray, hserved, hclosing, hformats, hleaves⟩ := hlocked
  refine ⟨fun y hy hr => ?_, hlane, htray, hserved, hclosing, hformats, fun y hy => ?_⟩
  · obtain hy | hy := Track.mem_past.mp hy
    · cases hy
      have hid := State.book?_id hb
      refine ⟨body, rfl, _, List.mem_map_of_mem (State.mem_of_book? hb), ?_, ?_⟩
      · rw [if_pos hid]
        exact hid
      · rw [if_pos hid]
    · exact hplanned y (Track.mem_past.mpr (.inr hy)) hr
  · obtain hy | hy := Track.mem_sheets.mp hy
    · cases hy
    · obtain hy | hy := Track.mem_past.mp hy
      · cases hy
        exact hleaves x (Track.mem_sheets.mpr (.inl hx))
      · exact hleaves y (Track.mem_sheets.mpr (.inr (Track.mem_past.mpr (.inr hy))))

/-- The inputs of a plan are all held when a sheet comes to PUNCH (R26). -/
theorem State.Locked.planInput_ne_none {s : State} (h : s.Locked) (hacc : s.Accounted) (hmodes : ModesAgree s) (x : Sheet)
    (hx : s.track.reg = some x) (hmode : s.cycle.hold = .released ∨ s.line.mode = .ready) : s.planInput x ≠ none := by
  have hmem : x ∈ s.track.sheets := Track.mem_sheets.mpr (.inl hx)
  obtain ⟨b, hb, hid, -⟩ := hacc.held x.book (List.mem_map_of_mem hmem)
  obtain ⟨f, hf⟩ := Option.isSome_iff_exists.mp (h.formats b hb)
  obtain ⟨hlow, hhigh⟩ := h.leaves x hmem b hb hid
  have hleaf := List.getElem?_eq_getElem (l := b.leaves) (i := x.leaf - 1) (by omega)
  have hdie : s.die?.isSome = true := by
    refine hmodes.die.1 ?_
    obtain hhold | hready := hmode
    · exact .inr (hmodes.line.1.mp hhold)
    · exact .inl hready
  obtain ⟨d, hd⟩ := Option.isSome_iff_exists.mp hdie
  obtain ⟨i, hi, -⟩ := State.planInput_of (hid ▸ hacc.ids.book? hb) hd hf hleaf
  rw [hi]
  exact nofun

/-! ### The tray, the feeder and the Closer -/

theorem State.Locked.lay {s : State} (h : s.Locked) (e : LaneEntry) (rest : List LaneEntry)
    (hlane : s.track.lane = e :: rest) :
    (((s.setTrack s.track.popLane).updateBook e.sheet.book
      fun b => { b with stacked := b.stacked + 1 }).setTray (.building e.sheet.book)).Locked := by
  have hmem : e ∈ s.track.lane := by simp [hlane]
  obtain ⟨body, -, hbook⟩ := h.planned e.sheet (Track.mem_past_lane hmem) (h.lane e hmem)
  have hlaid := (h.follow (Track.follows_popLane h.lane)).changeState e.sheet.book
    (fun b => { b with stacked := b.stacked + 1 }) fun _ => ⟨rfl, rfl, rfl, rfl, Nat.le_succ _, rfl⟩
  refine hlaid.retray fun id hid => ?_
  cases hid
  obtain ⟨b, hb, hid, ht⟩ := hbook
  refine ⟨_, List.mem_map_of_mem hb, ?_⟩
  rw [if_pos hid]
  exact ⟨hid, Nat.succ_pos _, by rw [ht]; rfl⟩

theorem State.Locked.startClose {s : State} (h : s.Locked) (id : Nat) (b : Book) (htray : s.tray = .complete id)
    (hb : s.book? id = some b) (w : Wire) (hw : w.feeder = .idle) (limit : Nat) :
    ((((s.updateBook b.id fun b => { b with state := .closing }).setWire w).setTray .empty).setCloser
      { mode := .closing b.id limit (.running 0), hookWait := false }).Locked := by
  obtain rfl := State.book?_id hb
  have hopen : Machine.Locked s.books s.formats s.track .empty .idle (some b.id) := by
    refine ⟨h.planned, h.lane, (fun _ he => by cases he), (fun _ he => by cases he), fun i hi => ⟨(fun he => by cases he), ?_⟩,
      h.formats, h.leaves⟩
    cases hi
    obtain ⟨c, hc, hcid, -, ht⟩ := h.tray b.id (by rw [htray]; rfl)
    exact ⟨c, hc, hcid, ht⟩
  have hgoal := hopen.changeState b.id (fun b => { b with state := .closing })
    fun _ => ⟨rfl, rfl, rfl, rfl, Nat.le_refl _, rfl⟩
  rw [← hw] at hgoal
  exact hgoal

theorem State.Locked.completeTray {s : State} (h : s.Locked) (id : Nat) (htray : s.tray = .building id) :
    ((s.updateBook id fun b => { b with state := .stacked }).setTray (.complete id)).Locked := by
  have hcomplete : Machine.Locked s.books s.formats s.track (.complete id) s.wire.feeder s.closer.mode.book? :=
    h.retray fun i hi => h.tray i (by rw [htray]; exact hi)
  exact hcomplete.changeState id _ fun _ => ⟨rfl, rfl, rfl, rfl, Nat.le_refl _, rfl⟩

theorem State.Locked.refeedSame {s : State} (h : s.Locked) (id loops ms : Nat) (f : Feeder)
    (hfeeding : s.wire.feeder = .feeding id loops (.running ms))
    (hf : f = .feeding id loops .timedOut ∨ f = .cutReady id loops) : (s.setWire { s.wire with feeder := f }).Locked := by
  have hserved : s.wire.feeder.book? = some id := by rw [hfeeding]; rfl
  obtain ⟨b, hb, hbid, hpos, ht, hcut, -⟩ := h.served id hserved
  have hloops := hcut loops _ hfeeding
  have hclosing : s.closer.mode.book? ≠ some id := fun hc => (h.closing id hc).1 hserved
  refine h.refeed fun i hi => ?_
  have hi : f.book? = some i := hi
  obtain rfl | rfl := hf
  · cases hi
    refine ⟨⟨b, hb, hbid, hpos, ht, (fun n t he => ?_), fun n he => by cases he⟩, hclosing⟩
    cases he
    exact hloops
  · cases hi
    refine ⟨⟨b, hb, hbid, hpos, ht, (fun n t he => by cases he), fun n he => ?_⟩, hclosing⟩
    cases he
    exact hloops

theorem Move.locked {r : Rank} {s t : State} (h : Move r s t) (hacc : s.Accounted) (hmodes : ModesAgree s)
    (hs : s.Locked) : t.Locked := by
  cases h with
  | inner _ hinner => exact hinner.locked hacc hs
  | setFormat slot f => exact hs.setFormat slot f
  | queueBook id slot hanger leaves hroom hid hnew hformat =>
    exact hs.queueBook hacc (newBook id slot hanger leaves) hnew hformat
  | removeQueued id b hb hqueued => exact hs.removeQueued hacc id b hb hqueued
  | retouch u hlike => exact hs.follow (hlike.follows hs.lane)
  | endPermit => exact hs.noPermit
  | newcomer p b leaf seq hpermit hb hleaf => exact hs.newcomer hacc b leaf _ (State.mem_of_book? hb) hleaf rfl rfl
  | toBin x hx =>
    exact (hs.follow (Track.follows_leaveNotch hs.lane .bin)).changeState x.book _
      fun _ => ⟨rfl, rfl, rfl, rfl, Nat.le_refl _, rfl⟩
  | toLane x hx hroute =>
    exact hs.follow (Track.follows_joinLane hs.lane hx (by simp [hroute]) false .lane)
  | toDrill x d hx hroute => exact hs.follow (Track.follows_joinLane hs.lane hx (by simp [hroute]) true .drill)
  | toNotch x hx => exact hs.follow (Track.follows_toNotch hs.lane hx)
  | toPunchRejected x y hx hy hbook hleaf => exact hs.follow (Track.follows_toPunch hs.lane hx hy hbook hleaf)
  | toPunchPlanned x i body route hx hroute hinput hplan => exact hs.toPunchPlanned hacc x i body route hx hinput hplan
  | toPunchUnplanned x hx hroute hinput hmode => exact absurd hinput (hs.planInput_ne_none hacc hmodes x hx hmode)
  | issue => exact hs.follow (Track.follows_of_subset (fun _ hx _ => hx) hs.lane fun _ hx => hx)
  | rejectAtPunch x y hx hy hbook hleaf => exact hs.follow (Track.follows_rejectAtPunch hs.lane hx hy hbook hleaf)
  | dump e rest hlane =>
    exact (hs.follow (Track.follows_popLane hs.lane)).changeState e.sheet.book _
      fun _ => ⟨rfl, rfl, rfl, rfl, Nat.le_refl _, rfl⟩
  | lay e rest b hlane => exact hs.lay e rest hlane
  | complete id b htray => exact hs.completeTray id htray
  | startClose id loops b htray hcloser hcut hb limit hooks => exact hs.startClose id b htray hb _ rfl limit
  | bind id hclosing => exact hs.bind hacc id hclosing
  | refeed id loops ms f hfeeding hf => exact hs.refeedSame id loops ms f hfeeding hf
  | halt c => exact hs.halt c
  | unmount d m hiface =>
    unfold State.contactOpens
    simp only [hiface]
    unfold State.dieGone
    split
    · simpa [State.Locked] using hs
    · exact hs
    · exact State.Locked.halt (by exact hs) _
  | stop => exact hs.stop hacc
  | judgeDrainEnd | toDraining | startRun | mount => simpa [State.Locked] using hs
  | emitFire | dropNotices | watch | count | startCycle | stage => exact hs

theorem Restarted.locked {s t : State} (h : Restarted s t) : t.Locked := by
  obtain ⟨-, -, -, -, -, -, hbooks, -, -, htrack, -, -, htray, hwire, hcloser, -⟩ := h.fields
  rw [State.Locked, hbooks, htrack, htray, hwire, hcloser]
  exact ⟨(by simp [Track.past, State.reset]), (by simp [State.reset]), (fun _ he => by cases he), (fun _ he => by cases he),
    (fun _ he => by cases he), (by simp), by simp⟩

/-- Settles O9: every move keeps law 7 with the account of the sheets and the agreement of the modes, and a restart
brings all three about. -/
theorem oneSlotCountPerBookKept : Obligations.OneSlotCountPerBookKept := by
  unfold Obligations.OneSlotCountPerBookKept
  intro s t hacc hline hdie hs hstep
  rw [sheetsAccounted_iff] at hacc
  rw [slotCountsAgree_iff] at hs ⊢
  obtain ⟨-, -, hs'⟩ := step_keeps_of_moves (P := fun s => s.Accounted ∧ ModesAgree s ∧ s.Locked)
    (fun _ _ h => ⟨h.accounted, h.modesAgree, h.locked⟩)
    (fun _ _ _ _ h => ⟨h.1, h.2.1.congr rfl rfl rfl rfl, h.2.2⟩)
    (fun _ _ hmove h => ⟨hmove.accounted h.1, hmove.modesAgree h.2.1, hmove.locked h.1 h.2.1 h.2.2⟩) s t
    ⟨hacc, ⟨hline, hdie⟩, hs⟩ hstep
  exact hs'

end Sys2Proof.Machine
end

section
/-! PROOFS. What the moves drive: PUNCH_FIRE comes with ACTIVE pins only (law 5), and a cut command carries its book's slot
count (law 7). -/

namespace Sys2Proof.Machine

open Sys2Proof.Safety

/-! ### The outputs of a move -/

/-- The outputs that a chain of moves of a rank may drive. -/
def Rank.Allows (r : Rank) : Output → Prop
  | .punchFire => r = .punching
  | .wireCut _ _ => r ≠ .plain
  | _ => True

theorem Rank.allows_of_plain (r : Rank) {o : Output} (h : o.Plain) : r.Allows o := by
  cases o <;> trivial

/-- The outputs of `s` stand, followed by some that the rank allows. -/
def Emits (r : Rank) (s t : State) : Prop := ∃ l, t.out = s.out ++ l ∧ ∀ o ∈ l, r.Allows o

section
variable {r : Rank} {s t u : State}

theorem Emits.trans (h : Emits r s t) (h' : Emits r t u) : Emits r s u := by
  obtain ⟨l, hl, hall⟩ := h
  obtain ⟨l', hl', hall'⟩ := h'
  refine ⟨l ++ l', by rw [hl', hl, List.append_assoc], fun o ho => ?_⟩
  obtain ho | ho := List.mem_append.mp ho
  · exact hall o ho
  · exact hall' o ho

theorem emits_of_eq (h : t.out = s.out) : Emits r s t := ⟨[], by simp [h], by simp⟩

theorem emits_one {o : Output} (h : t.out = s.out ++ [o]) (ho : r.Allows o) : Emits r s t :=
  ⟨[o], h, by simpa using ho⟩

theorem SpoilMove.emits (h : SpoilMove r s t) : Emits r s t := by
  cases h with
  | elsewhere _ halike => exact emits_of_eq halike.out
  | emit o ho => exact emits_one rfl (r.allows_of_plain ho)
  | emitCut n hook hr => exact emits_one rfl hr
  | note | sweep | markSpoiled | condemn | drillOn | finishBoard | dumpTray | idleFeeder | serve => exact emits_of_eq rfl

theorem SpoilMoves.emits (h : SpoilMoves r s t) : Emits r s t := by
  induction h with
  | refl => exact emits_of_eq rfl
  | tail _ hm ih => exact ih.trans hm.emits

theorem emits_halt (s : State) (c : HaltCause) : Emits r s (s.halt c) := emits_of_eq (by simp)

theorem emits_judgeDrainEnd (s : State) : Emits r s s.judgeDrainEnd := by
  obtain ⟨-, he⟩ | ⟨-, -, -, he⟩ := s.judgeDrainEnd_cases
  · rw [he]
    exact emits_of_eq rfl
  · rw [he]
    exact emits_one (o := .pinLoad []) (by simp [State.holdClear, State.emit]) trivial

theorem emits_stop (hr : r ≠ .plain) (s : State) : Emits r s s.stopLine := by
  have hblocks : Emits r s (s.stopBlocks.setCloser s.closer.stopped) :=
    emits_one (o := .pinLoad []) rfl trivial
  refine (hblocks.trans (spoilMoves_purges hr s.purged _).emits).trans (emits_of_eq ?_)
  simp [State.stopLine]

theorem Move.emits (h : Move r s t) : Emits r s t := by
  cases h with
  | inner _ hinner => exact hinner.emits
  | emitFire hr => exact emits_one rfl hr
  | judgeDrainEnd => exact emits_judgeDrainEnd s
  | stop hr => exact emits_stop hr s
  | halt c => exact emits_halt s c
  | unmount d m hiface =>
    unfold State.contactOpens
    simp only [hiface]
    unfold State.dieGone
    split
    · exact emits_of_eq (by simp)
    · exact emits_of_eq rfl
    · exact emits_of_eq (by simp)
  | toDraining | startRun | mount => exact emits_of_eq (by simp)
  | dropNotices | setFormat | queueBook | removeQueued | retouch | endPermit | newcomer | toBin | toLane | toDrill | toNotch
  | toPunchRejected | toPunchPlanned | toPunchUnplanned | issue | rejectAtPunch | dump | lay | complete | startClose | bind
  | refeed | watch | count | startCycle | stage => exact emits_of_eq rfl

theorem Moves.emits (h : Moves r s t) : Emits r s t := by
  induction h with
  | refl => exact emits_of_eq rfl
  | tail _ hm ih => exact ih.trans hm.emits

end

/-! ### PUNCH_FIRE -/

theorem Emits.noFire {r : Rank} {s t : State} (h : Emits r s t) (hr : r ≠ .punching) (hs : .punchFire ∉ s.out) :
    .punchFire ∉ t.out := by
  obtain ⟨l, hl, hall⟩ := h
  rw [hl, List.mem_append]
  rintro (ho | ho)
  · exact hs ho
  · exact hr (hall _ ho)

/-- The CLOSE is the stroke, with the notch perhaps after it (R94, R95). -/
theorem State.closeEvent_cases (s : State) (ready : Bool) :
    ∃ l, (s.closeEvent ready).out = (s.closePunch ready).out ++ l ∧ .punchFire ∉ l
      ∧ (s.closeEvent ready).cycle = (s.closePunch ready).cycle := by
  unfold State.closeEvent
  dsimp only
  split
  · exact ⟨[.notchFire], rfl, by simp, rfl⟩
  split
  · split
    · exact ⟨[.notchFire], rfl, by simp, rfl⟩
    · exact ⟨[], by simp, by simp, rfl⟩
  · exact ⟨[], by simp, by simp, rfl⟩

/-- A stroke that fires has the carriage ready and ACTIVE pins alone (R91 to R93). -/
theorem State.closePunch_fires (s : State) (ready : Bool) (hs : .punchFire ∉ s.out)
    (h : .punchFire ∈ (s.closePunch ready).out) :
    ready = true ∧ ∃ pins, s.pinsActive pins = true ∧ .pinLoad pins ∈ (s.closePunch ready).out
      ∧ (s.closePunch ready).cycle.chain = pins ∧ (s.closePunch ready).cycle.stroke = pins := by
  have hquiet {t : State} (hm : Moves .cutting s t) (ht : .punchFire ∈ t.out) : False :=
    hm.emits.noFire (by decide) hs ht
  unfold State.closePunch at h ⊢
  split at h
  · exact (hquiet (moves_nullStroke s) h).elim
  next x hx =>
  split at h
  · exact (hquiet (moves_nullStroke s) h).elim
  next pins hpins =>
  split at h
  · exact (hquiet (moves_failAtClose s (by decide) x _ hx) h).elim
  next hready =>
  split at h
  · next hactive =>
    simp only [hready, hactive, if_true]
    exact ⟨by simpa using hready, pins, hactive, by simp [State.punchStroke, State.emit], rfl, rfl⟩
  · exact (hquiet (moves_failAtClose s (by decide) x _ hx) h).elim

theorem State.pinsActive_iff (s : State) (pins : List Nat) : s.pinsActive pins = true ↔
    ∀ k ∈ pins, ∃ d m x, s.die.iface = .mounted d m ∧ m[k]? = some x ∧ x.state = .active := by
  simp only [State.pinsActive, List.all_eq_true, pinActive_iff]
  refine forall₂_congr fun k _ => ?_
  unfold State.pins?
  split
  · next d m h => simp [h]
  · next h => simpa using fun d m hd => absurd hd (h d m)

/-- A pulse that fires has reached the CLOSE (R86, R93). -/
theorem State.countPulse_fires (s : State) (ready : Bool) (hs : .punchFire ∉ s.out)
    (h : .punchFire ∈ (s.countPulse ready).out) :
    ∃ n, s.countPulse ready = (s.setCycle { s.cycle with count := n }).closeEvent ready := by
  have hquiet {t u : State} (hu : .punchFire ∈ u.out) (hm : Moves .cutting t u) (ht : t.out = s.out) : False :=
    hm.emits.noFire (by decide) (by rw [ht]; exact hs) hu
  unfold State.countPulse at h ⊢
  split at h
  · next hhold =>
    dsimp only at h ⊢
    split at h
    · exact (hquiet h (moves_cycleStart _ (by rfl)) (by rfl)).elim
    next hlc =>
    split at h
    · next hpc =>
      rw [if_neg hlc, if_pos hpc]
      exact ⟨_, rfl⟩
    split at h
    · exact (hquiet h (moves_openEvent _ (by decide)) (by rfl)).elim
    split at h
    · exact (hquiet h (moves_advanceEvent _ (by decide) (by exact hhold)) (by rfl)).elim
    · exact (hs h).elim
  · exact (hs h).elim

theorem Restarted.out_plain {s t : State} (h : Restarted s t) : ∀ o ∈ t.out, o.Plain := by
  obtain ⟨-, -, -, -, -, -, -, -, -, -, -, -, -, -, -, -, -, hout⟩ := h.fields
  intro o ho
  obtain rfl | rfl := hout o ho <;> trivial

/-- Settles O11: no act but an encoder pulse at the CLOSE fires, and that one loads the ACTIVE pins of its stroke. -/
theorem punchedPinsActive : Obligations.PunchedPinsActive := by
  unfold Obligations.PunchedPinsActive
  intro c s t h hfire
  obtain hr | ⟨l, line, -, -, v, l', hact, rfl, -⟩ := exec_cases c s t h
  · exact (hr.out_plain _ hfire).elim
  have hs : .punchFire ∉ (s.readied l line).out := by simp [State.readied]
  obtain hm | hm | ⟨ready, rfl, rfl⟩ := hact.moves_or
  · exact ((hm .plain).emits.noFire (by decide) hs hfire).elim
  · exact ((hm.moves (r := .cutting) (by decide)).emits.noFire (by decide) hs hfire).elim
  have hskew : (s.readied l line).skewPulse.out = (s.readied l line).out := by simp
  have hdie : (s.readied l line).skewPulse.die = s.die := by simp [State.readied]
  have hfire : .punchFire ∈ ((s.readied l line).skewPulse.countPulse ready).out := hfire
  obtain ⟨n, hn⟩ := State.countPulse_fires _ ready (by rw [hskew]; exact hs) hfire
  set u := (s.readied l line).skewPulse.setCycle { (s.readied l line).skewPulse.cycle with count := n } with hu
  obtain ⟨notch, hout, hnotch, hcycle⟩ := u.closeEvent_cases ready
  rw [hn, hout, List.mem_append] at hfire
  obtain ⟨rfl, pins, hactive, hload, hchain, hstroke⟩ :=
    u.closePunch_fires ready (by rw [hu]; exact hskew ▸ hs) (hfire.resolve_right hnotch)
  have ht : ((s.readied l line).encPulse true).setLink l' = (u.closeEvent true).setLink l' := by
    rw [← hn]
    rfl
  rw [ht]
  refine ⟨rfl, ?_, ?_, ?_⟩
  · rw [State.setLink_cycle, State.setLink_out, hcycle, hstroke, hout]
    exact List.mem_append_left _ hload
  · rw [State.setLink_cycle, hcycle, hchain, hstroke]
  · rw [State.setLink_cycle, hcycle, hstroke, ← hdie]
    exact (u.pinsActive_iff pins).mp hactive

end Sys2Proof.Machine
end

section
/-! PROOFS. Law 7, its second part: a cut command carries the slot count of the book it is sent for. -/

namespace Sys2Proof.Machine

open Sys2Proof.Safety

/-- No cut command is driven. -/
def State.NoCut (s : State) : Prop := ∀ n hook, Output.wireCut n hook ∉ s.out

/-- Every cut command driven is for the book being served, with its slot count and its hook flag (R139). -/
def State.CutServed (s : State) : Prop :=
  ∀ n hook, Output.wireCut n hook ∈ s.out →
    ∃ b ∈ s.books, s.wire.feeder = .feeding b.id n (.running 0) ∧ n = b.tBook.getD 0 ∧ hook = (b.hanger == .hook)

section
variable {s t : State}

theorem State.NoCut.cutServed (h : s.NoCut) : s.CutServed := fun n hook hcut => absurd hcut (h n hook)

theorem State.NoCut.of_eq (h : s.NoCut) (hout : t.out = s.out) : t.NoCut := by simpa [State.NoCut, hout] using h

theorem Emits.noCut (h : Emits .plain s t) (hs : s.NoCut) : t.NoCut := by
  obtain ⟨l, hl, hall⟩ := h
  intro n hook hcut
  rw [hl, List.mem_append] at hcut
  obtain hcut | hcut := hcut
  · exact hs n hook hcut
  · exact hall _ hcut rfl

/-- With no cut under way no cut command has been driven. -/
theorem State.CutServed.noCut (h : s.CutServed) (hfeeder : ∀ id loops, s.wire.feeder ≠ .feeding id loops (.running 0)) :
    s.NoCut := by
  intro n hook hcut
  obtain ⟨b, -, hfeed, -⟩ := h n hook hcut
  exact hfeeder _ _ hfeed

/-! ### What keeps a cut served -/

/-- The served book's record stands under the same feeder, and no cut command is added. -/
theorem State.CutServed.mono (h : s.CutServed) (hfeeder : t.wire.feeder = s.wire.feeder) (hout : Emits .plain s t)
    (hbooks : ∀ b ∈ s.books, s.wire.feeder.book? = some b.id →
      ∃ b' ∈ t.books, b'.id = b.id ∧ b'.tBook = b.tBook ∧ b'.hanger = b.hanger) : t.CutServed := by
  obtain ⟨l, hl, hall⟩ := hout
  intro n hook hcut
  rw [hl, List.mem_append] at hcut
  obtain ⟨b, hb, hfeed, hn, hhook⟩ := h n hook (hcut.resolve_right fun hcut => hall _ hcut rfl)
  obtain ⟨b', hb', hid, htBook, hhanger⟩ := hbooks b hb (by rw [hfeed]; rfl)
  exact ⟨b', hb', by rw [hfeeder, hfeed, hid], by rw [htBook, hn], by rw [hhanger, hhook]⟩

theorem State.CutServed.of_eq (h : s.CutServed) (hfeeder : t.wire.feeder = s.wire.feeder) (hout : Emits .plain s t)
    (hbooks : t.books = s.books) : t.CutServed :=
  h.mono hfeeder hout fun b hb _ => ⟨b, hbooks ▸ hb, rfl, rfl, rfl⟩

/-- The record of the served book is not removed (R19). -/
theorem State.CutServed.sweep (h : s.CutServed) : s.sweep.CutServed :=
  h.mono (by simp) (emits_of_eq (by simp)) fun b hb hserved =>
    ⟨b, (s.mem_sweep b).mpr ⟨hb, by simp [State.removable, hserved]⟩, rfl, rfl, rfl⟩

theorem State.CutServed.halt (h : s.CutServed) (c : HaltCause) : (s.halt c).CutServed := by
  unfold State.halt
  split
  · exact h.of_eq (by simp) (emits_of_eq (by simp)) (by simp)
  · exact State.CutServed.sweep (h.of_eq (by simp) (emits_of_eq (by simp)) (by simp))

theorem State.CutServed.judgeDrainEnd (h : s.CutServed) : s.judgeDrainEnd.CutServed :=
  h.of_eq (by simp) (emits_judgeDrainEnd s) (by simp)

theorem State.CutServed.judgeCloser (h : s.CutServed) : s.judgeCloser.CutServed := by
  obtain he | ⟨id, l, b, htray, hcloser, hcut, -, hb, ⟨-, -, he⟩ | -⟩ := s.judgeCloser_cases
  · rwa [he]
  · rw [he]
    exact h.of_eq (by simp) (emits_of_eq (by simp)) (by simp)
  · exact ((moves_judgeCloser s).emits.noCut (h.noCut (by simp [hcut]))).cutServed

theorem State.CutServed.admission (h : s.CutServed) : s.admission.CutServed :=
  h.of_eq (by simp) (moves_admission s).emits (by simp)

theorem State.CutServed.fireNotch (h : s.CutServed) : s.fireNotch.CutServed :=
  h.of_eq (by simp) (moves_fireNotch s).emits (by simp)

theorem State.CutServed.completeTray (h : s.CutServed) (id : Nat) : (s.completeTray id).CutServed := by
  unfold State.completeTray
  split
  · exact h
  split
  · refine State.CutServed.judgeCloser (h.mono (by simp) (emits_of_eq (by simp)) fun b hb _ => ?_)
    simp only [State.setTray_books, State.updateBook_books]
    refine ⟨_, List.mem_map_of_mem hb, ?_⟩
    split <;> exact ⟨rfl, rfl, rfl⟩
  · exact h

/-! ### What starts a cut -/

theorem State.NoCut.startCut (h : s.NoCut) {b : Book} (hb : b ∈ s.books) (first : Bool) : (s.startCut b first).CutServed := by
  unfold State.startCut
  dsimp only
  split
  · refine State.CutServed.of_eq
      (s := (s.setWire { s.wire with
        feeder := .feeding b.id (b.tBook.getD 0) (.running 0), spool := s.wire.spool - b.tBook.getD 0 }).emit
          (.wireCut (b.tBook.getD 0) (b.hanger == .hook)))
      ?_ (by simp) (spoilMoves_judgeWireLow _ _ _).emits (by simp)
    intro n hook hcut
    simp only [State.emit, State.setWire_out, List.mem_append, List.mem_singleton, Output.wireCut.injEq] at hcut
    obtain ⟨rfl, rfl⟩ := hcut.resolve_left (h n hook)
    exact ⟨b, hb, rfl, rfl, rfl⟩
  · refine State.NoCut.cutServed ?_
    split
    · exact h.of_eq (by simp)
    · exact h.of_eq (by simp)

theorem State.NoCut.wireStart (h : s.NoCut) : s.wireStart.CutServed := by
  obtain he | ⟨id, b, -, -, hb, -, he⟩ := s.wireStart_cases
  · rw [he]
    exact h.cutServed
  · rw [he]
    exact h.startCut (State.mem_of_book? hb) true

theorem State.NoCut.dropCut (h : s.NoCut) : s.dropCut.CutServed :=
  State.NoCut.wireStart (h.of_eq (by simp))

theorem State.NoCut.wireSpoil (h : s.NoCut) (id : Nat) : (s.wireSpoil id).CutServed := by
  unfold State.wireSpoil
  split
  · split
    · exact h.dropCut
    · exact h.cutServed
  · split
    · exact h.dropCut
    · exact h.cutServed
  · exact h.cutServed

/-- A spoil before its part at the Wire Feed. -/
def State.spoilBeforeWire (s : State) (id : Nat) (reason : Reason) (q v : Nat) : State :=
  ((((s.updateBook id (Book.spoil reason)).push (spoiledEvent reason id q v)).setTrack
    (s.track.condemn id)).drillSpoil id).traySpoil id

theorem State.NoCut.spoilBeforeWire (h : s.NoCut) (id : Nat) (reason : Reason) (q v : Nat) :
    (s.spoilBeforeWire id reason q v).NoCut := by
  have hmoves : SpoilMoves .plain s (s.spoilBeforeWire id reason q v) :=
    .trans (.trans (.tail (.tail (.single (.markSpoiled s id reason)) (.note _ _)) (.condemn _ id))
      (spoilMoves_drillSpoil _ id)) (spoilMoves_traySpoil _ id)
  exact hmoves.emits.noCut h

theorem State.NoCut.spoil (h : s.NoCut) (id : Nat) (reason : Reason) (q v : Nat) : (s.spoil id reason q v).CutServed := by
  obtain ⟨-, he⟩ | ⟨b, -, -, he⟩ := s.spoil_cases id reason q v
  · rw [he]
    exact h.cutServed
  · rw [he]
    exact ((h.spoilBeforeWire id reason q v).wireSpoil id).sweep

/-- A spoil with the feeder IDLE starts no cut. -/
theorem State.NoCut.spoil_idle (h : s.NoCut) (hidle : s.wire.feeder = .idle) (id : Nat) (reason : Reason) (q v : Nat) :
    (s.spoil id reason q v).NoCut ∧ (s.spoil id reason q v).wire.feeder = .idle := by
  obtain ⟨-, he⟩ | ⟨b, -, -, he⟩ := s.spoil_cases id reason q v
  · rw [he]
    exact ⟨h, hidle⟩
  · have hbefore : (s.spoilBeforeWire id reason q v).wire.feeder = .idle := by simpa [State.spoilBeforeWire] using hidle
    have hquiet : (s.spoilBeforeWire id reason q v).wireSpoil id = s.spoilBeforeWire id reason q v := by
      simp [State.wireSpoil, hbefore]
    rw [show s.spoil id reason q v = (s.spoilBeforeWire id reason q v).sweep from he.trans (congrArg State.sweep hquiet)]
    exact ⟨(h.spoilBeforeWire id reason q v).of_eq (by simp), by simpa using hbefore⟩

theorem State.NoCut.purges (ids : List Nat) : ∀ {s : State}, s.NoCut → s.wire.feeder = .idle →
    (ids.foldl (fun t id => t.spoil id .purged 0 0) s).NoCut := by
  induction ids with
  | nil => exact fun h _ => h
  | cons id ids ih =>
    intro s h hidle
    obtain ⟨hcut, hidle⟩ := h.spoil_idle hidle id .purged 0 0
    exact ih hcut hidle

/-- STOP starts no cut: the feeder is IDLE before its spoils (R148). -/
theorem State.NoCut.stopLine (h : s.NoCut) : s.stopLine.NoCut := by
  have hblocks : (s.stopBlocks.setCloser s.closer.stopped).NoCut :=
    Emits.noCut (emits_one (o := .pinLoad []) rfl trivial) h
  exact (hblocks.purges s.purged (by rfl)).of_eq (by simp [State.stopLine])

theorem State.NoCut.openTray (h : s.NoCut) (id : Nat) : (s.openTray id).CutServed := by
  unfold State.openTray
  split
  · exact State.NoCut.wireStart (h.of_eq (by simp))
  · exact h.cutServed

theorem State.NoCut.handOver (h : s.NoCut) : s.handOver.CutServed := by
  unfold State.handOver
  split
  · exact h.cutServed
  next e rest hlane =>
  split
  · exact h.cutServed
  next haway =>
  unfold State.offerHead
  split
  · exact h.cutServed
  split
  · exact ((moves_dumpSheet s e rest hlane (by simpa using haway)).emits.noCut h).cutServed
  split
  · exact ((State.NoCut.openTray (h.of_eq (by simp)) _).completeTray _).judgeDrainEnd
  · exact h.cutServed

theorem State.NoCut.openEvent (h : s.NoCut) : s.openEvent.CutServed := ((moves_countStroke s).emits.noCut h).handOver

theorem State.NoCut.failAtClose (h : s.NoCut) (x : Sheet) (reason : Reason) : (s.failAtClose x reason).CutServed :=
  State.NoCut.spoil (((moves_nullStroke s).emits.noCut h).of_eq (by simp)) _ _ _ _

theorem State.NoCut.closePunch (h : s.NoCut) (ready : Bool) : (s.closePunch ready).CutServed := by
  have hnull : s.nullStroke.CutServed := ((moves_nullStroke s).emits.noCut h).cutServed
  unfold State.closePunch
  split
  · exact hnull
  split
  · exact hnull
  split
  · exact h.failAtClose _ _
  split
  · refine State.NoCut.cutServed fun n hook => ?_
    simpa [State.punchStroke, State.emit] using h n hook
  · exact h.failAtClose _ _

theorem State.NoCut.closeEvent (h : s.NoCut) (ready : Bool) : (s.closeEvent ready).CutServed := by
  have hpunch := h.closePunch ready
  unfold State.closeEvent
  dsimp only
  split
  · exact hpunch.fireNotch
  split
  · split
    · exact State.CutServed.fireNotch hpunch
    · exact hpunch
  · exact hpunch

theorem State.NoCut.moveToPunch (h : s.NoCut) : s.moveToPunch.CutServed := by
  unfold State.moveToPunch
  split
  · exact h.cutServed
  next x _ =>
  dsimp only
  unfold State.planPoint
  split
  · exact h.cutServed
  split
  · exact h.cutServed
  split
  · next body _ =>
    refine State.NoCut.cutServed ?_
    cases body with
    | punched q => exact Emits.noCut (emits_one (o := .carriage q.shift) rfl trivial) h
    | board q => exact h
  · exact State.NoCut.spoil (h.of_eq (by rfl)) _ _ _ _

theorem State.NoCut.advanceEvent (h : s.NoCut) : s.advanceEvent.CutServed := by
  have hout : ((s.setCycle { s.cycle with outstanding := true }).emit .advanceOut).NoCut :=
    Emits.noCut (emits_one (o := .advanceOut) rfl trivial) h
  have hmoved : Moves .plain ((s.setCycle { s.cycle with outstanding := true }).emit .advanceOut) _ :=
    .trans (.trans (moves_lapsePermit _) (moves_divert _)) (moves_moveToNotch _)
  exact (State.NoCut.moveToPunch (hmoved.emits.noCut hout)).admission

theorem State.NoCut.countPulse (h : s.NoCut) (ready : Bool) : (s.countPulse ready).CutServed := by
  unfold State.countPulse
  split
  · dsimp only
    split
    · exact ((moves_cycleStart _ (by rfl)).emits.noCut (State.NoCut.of_eq h (by rfl))).cutServed
    split
    · exact State.NoCut.closeEvent (h.of_eq (by rfl)) ready
    split
    · exact State.NoCut.openEvent (h.of_eq (by rfl))
    split
    · exact State.NoCut.advanceEvent (h.of_eq (by rfl))
    · exact h.cutServed
  · exact h.cutServed

theorem State.NoCut.encPulse (h : s.NoCut) (ready : Bool) : (s.encPulse ready).CutServed :=
  State.NoCut.countPulse (h.of_eq (by simp)) ready

theorem State.NoCut.retryCut (h : s.NoCut) : s.retryCut.CutServed := by
  unfold State.retryCut
  split
  · split
    · next b hb => exact h.startCut (State.mem_of_book? hb) false
    · exact h.cutServed
  · exact h.cutServed

theorem CutAct.cutServed (h : CutAct s t) (hs : s.NoCut) : t.CutServed := by
  cases h with
  | cancelSpoil id => exact hs.spoil _ _ _ _
  | stop => exact hs.stopLine.cutServed
  | supply spool low hooks => exact (State.NoCut.retryCut (hs.of_eq (by simp))).judgeCloser
  | stepExpiry =>
    unfold State.stepExpiry
    split
    · refine State.CutServed.halt ?_ _
      dsimp only
      split
      · exact State.NoCut.spoil (hs.of_eq (by simp)) _ _ _ _
      · exact hs.cutServed
    · exact hs.cutServed
  | cutDone =>
    unfold State.cutDone
    split
    · split
      · exact hs.dropCut
      · exact State.CutServed.judgeCloser (State.NoCut.cutServed (hs.of_eq (by simp)))
    · exact hs.cutServed

end

/-- Settles O12: a start of the Wire Feed sends its cut for the book it then serves, and what follows in the same step
keeps that book and its feeder. -/
theorem wireCutIsBookCount : Obligations.WireCutIsBookCount := by
  unfold Obligations.WireCutIsBookCount
  intro c s t n hook h hcut
  obtain hr | ⟨l, line, -, -, v, l', hact, rfl, -⟩ := exec_cases c s t h
  · exact (hr.out_plain _ hcut).elim
  have hs : (s.readied l line).NoCut := by simp [State.NoCut, State.readied]
  have hv : v.CutServed := by
    obtain hm | hm | ⟨ready, -, rfl⟩ := hact.moves_or
    · exact ((hm .plain).emits.noCut hs).cutServed
    · exact hm.cutServed hs
    · exact hs.encPulse ready
  exact hv n hook hcut

end Sys2Proof.Machine
end

section
/-! PROOFS. The track through the operations: the ADVANCE step by step, and the order of the LANE (law 2). -/

namespace Sys2Proof.Machine

open Sys2Proof.Safety

/-! ### The track after the shared operations -/

section
variable (s : State)

theorem State.halt_track (c : HaltCause) : (s.halt c).track = s.track ∨ (s.halt c).track = s.track.noPermit := by
  obtain ⟨-, he⟩ | ⟨-, he⟩ := s.halt_cases c
  · exact .inl (by rw [he]; simp)
  · exact .inr (by rw [he]; rfl)

/-- The track after a spoil of a held book that was not SPOILED. -/
theorem State.drillSpoil_track (id : Nat) :
    (s.drillSpoil id).track = s.track
    ∨ ((∃ o, s.drill.mode = .suspended o) ∧ (s.drillSpoil id).track = s.track.boardBack) := by
  unfold State.drillSpoil
  split
  · split
    · exact .inl rfl
    · exact .inl rfl
    · next o hmode => exact .inr ⟨⟨o, hmode⟩, rfl⟩
    · exact .inl rfl
  · exact .inl rfl

/-- A spoil condemns records of the track, and frees a suspended board (R74 to R76, R128). -/
theorem State.spoil_track (id : Nat) (reason : Reason) (q v : Nat) :
    (s.spoil id reason q v).track = s.track ∨ (s.spoil id reason q v).track = s.track.condemn id
    ∨ ((∃ o, s.drill.mode = .suspended o) ∧ (s.spoil id reason q v).track = (s.track.condemn id).boardBack) := by
  obtain ⟨-, he⟩ | ⟨b, -, -, he⟩ := s.spoil_cases id reason q v
  · exact .inl (by rw [he])
  · set u := ((s.updateBook id (Book.spoil reason)).push (spoiledEvent reason id q v)).setTrack (s.track.condemn id) with hu
    have hspoil : (s.spoil id reason q v).track = (u.drillSpoil id).track := by rw [he]; simp
    have hut : u.track = s.track.condemn id := rfl
    have hud : u.drill = s.drill := by simp [hu]
    obtain h | ⟨ho, h⟩ := u.drillSpoil_track id
    · exact .inr (.inl (by rw [hspoil, h, hut]))
    · exact .inr (.inr ⟨hud ▸ ho, by rw [hspoil, h, hut]⟩)

end

theorem Sheet.condemnFor_seq (id : Nat) (x : Sheet) : (x.condemnFor id).seq = x.seq := by
  unfold Sheet.condemnFor Sheet.condemn
  split
  · split <;> rfl
  · rfl

/-- The two tracks hold the same sheets in the same places, under the same permit. -/
structure Track.SamePlaces (t u : Track) : Prop where
  reg : u.reg.map (·.seq) = t.reg.map (·.seq)
  punch : u.punch.map (·.seq) = t.punch.map (·.seq)
  notch : u.notch.map (·.seq) = t.notch.map (·.seq)
  lane : u.lane.map (·.sheet) = t.lane.map (·.sheet)
  permit : u.permit = t.permit
  diverter : u.diverter = t.diverter

theorem Track.SamePlaces.refl (t : Track) : t.SamePlaces t := ⟨rfl, rfl, rfl, rfl, rfl, rfl⟩

theorem Track.samePlaces_condemn (t : Track) (id : Nat) : t.SamePlaces (t.condemn id) := by
  have hseq : (fun x : Sheet => x.seq) ∘ Sheet.condemnFor id = fun x => x.seq :=
    funext fun x => x.condemnFor_seq id
  refine ⟨?_, ?_, ?_, rfl, rfl, rfl⟩ <;> simp only [Track.condemn, Option.map_map, hseq]

theorem Track.boardBack_sheets (t : Track) : t.boardBack.lane.map (·.sheet) = t.lane.map (·.sheet) := by
  simp [Track.boardBack]

theorem State.spoil_samePlaces (s : State) (id : Nat) (reason : Reason) (q v : Nat) :
    s.track.SamePlaces (s.spoil id reason q v).track := by
  obtain h | h | ⟨-, h⟩ := s.spoil_track id reason q v <;> rw [h]
  · exact .refl _
  · exact s.track.samePlaces_condemn id
  · obtain ⟨hreg, hpunch, hnotch, hlane, hpermit, hdiverter⟩ := s.track.samePlaces_condemn id
    exact ⟨hreg, hpunch, hnotch, (Track.boardBack_sheets _).trans hlane, hpermit, hdiverter⟩

/-- A spoil leaves the LANE alone, unless it frees a suspended board. -/
theorem State.spoil_lane (s : State) (hmode : ∀ o, s.drill.mode ≠ .suspended o) (id : Nat) (reason : Reason) (q v : Nat) :
    (s.spoil id reason q v).track.lane = s.track.lane := by
  obtain h | h | ⟨⟨o, ho⟩, -⟩ := s.spoil_track id reason q v
  · rw [h]
  · rw [h]
    rfl
  · exact absurd ho (hmode o)

/-! ### The steps of an ADVANCE -/

section
variable {s : State}

theorem State.lapsePermit_of_none (h : s.track.permit = none) : s.lapsePermit = s := by
  simp [State.lapsePermit, h]

theorem State.lapsePermit_of_some (h : s.track.permit ≠ none) :
    s.lapsePermit = ((s.setTrack s.track.noPermit).sweep).judgeDrainEnd := by
  obtain ⟨p, hp⟩ := Option.ne_none_iff_exists'.mp h
  simp [State.lapsePermit, hp]

/-- After its first step no permit stands. -/
theorem State.lapsePermit_track (s : State) : s.lapsePermit.track =
    { s.track with permit := none, feedPermit := s.track.permit.isNone && s.track.feedPermit } := by
  cases h : s.track.permit with
  | none =>
    rw [State.lapsePermit_of_none h, Option.isNone_none, Bool.true_and, ← h]
  | some p =>
    rw [State.lapsePermit_of_some (by simp [h])]
    simp [Track.noPermit]

theorem State.divert_of_none (h : s.track.notch = none) : s.divert = s.setTrack { s.track with diverter := .bin } := by
  simp [State.divert, h]

variable {x : Sheet}

theorem State.divert_of_reject (hx : s.track.notch = some x) (h : x.route = .reject) : s.divert = s.departBin x := by
  simp [State.divert, hx, h]

theorem State.divert_of_punch (hx : s.track.notch = some x) (h : x.route = .punch) : s.divert = s.departLane x := by
  simp [State.divert, hx, h]

theorem State.divert_of_drill (hx : s.track.notch = some x) (h : x.route = .drill) : s.divert = s.departDrill x := by
  simp [State.divert, hx, h]

/-- The entry a record makes at the LANE tail (R68 to R70). -/
def Sheet.laneEntries (x : Sheet) : List LaneEntry :=
  match x.route with
  | .reject => []
  | .punch => [{ sheet := x, away := false }]
  | .drill => [{ sheet := x, away := true }]

/-- The diverter for a route (R68 to R70). -/
def Route.diverter : Route → Diverter
  | .reject => .bin
  | .punch => .lane
  | .drill => .drill

/-- The departure empties NOTCH, sets the diverter and moves nothing else. -/
theorem State.divert_track (s : State) : s.divert.track =
    { s.track with
      notch := none, diverter := (s.track.notch.map (·.route.diverter)).getD .bin
      lane := s.track.lane ++ (s.track.notch.map (·.laneEntries)).getD [] } := by
  cases hx : s.track.notch with
  | none =>
    rw [State.divert_of_none hx]
    simp [hx]
  | some x =>
    cases hroute : x.route with
    | reject =>
      rw [State.divert_of_reject hx hroute]
      simp [State.departBin, Sheet.laneEntries, Route.diverter, hroute]
    | punch =>
      rw [State.divert_of_punch hx hroute]
      simp [State.departLane, Sheet.laneEntries, Route.diverter, hroute]
    | drill =>
      rw [State.divert_of_drill hx hroute]
      simp [State.departDrill, Sheet.laneEntries, Route.diverter, hroute]

theorem State.moveToNotch_of_none (h : s.track.punch = none) : s.moveToNotch = s := by
  simp [State.moveToNotch, h]

/-- The PUNCH record moves to NOTCH, which the diverter has emptied. -/
theorem State.moveToNotch_track (s : State) : s.moveToNotch.track =
    { s.track with punch := none, notch := s.track.punch.or s.track.notch } := by
  unfold State.moveToNotch
  split
  · next h => rw [h, Option.none_or, ← h]
  · next x hx =>
    dsimp only
    split <;> simp [hx]

theorem State.moveToPunch_of_none (h : s.track.reg = none) : s.moveToPunch = s := by
  simp [State.moveToPunch, h]

theorem State.moveToPunch_of_some (h : s.track.reg = some x) : s.moveToPunch =
    ((s.setTrack { s.track with reg := none, punch := some x }).setArrival
      { s.arrival with window := .closed }).planPoint x := by
  simp [State.moveToPunch, h]

/-- The plan point moves nothing (R26, R43). -/
theorem State.planPoint_samePlaces (s : State) (h : s.track.punch = some x) :
    s.track.SamePlaces (s.planPoint x).track := by
  unfold State.planPoint
  split
  · exact .refl _
  split
  · exact .refl _
  split
  · next body _ =>
    cases body <;> exact ⟨rfl, by simp [State.planMade, State.setPunch, h], rfl, rfl, rfl, rfl⟩
  · next reason _ =>
    obtain ⟨hreg, hpunch, hnotch, hlane, hpermit, hdiverter⟩ :=
      (s.setPunch { x with route := .reject, reason := some reason, plan := none }).spoil_samePlaces x.book reason x.seq x.leaf
    exact ⟨hreg, hpunch.trans (by simp [State.setPunch, h]), hnotch, hlane, hpermit, hdiverter⟩

/-- The REG record moves to PUNCH. -/
theorem State.moveToPunch_samePlaces (s : State) :
    Track.SamePlaces { s.track with reg := none, punch := s.track.reg.or s.track.punch } s.moveToPunch.track := by
  cases h : s.track.reg with
  | none =>
    rw [State.moveToPunch_of_none h]
    exact ⟨by simp [h], by simp, rfl, rfl, rfl, rfl⟩
  | some x =>
    rw [State.moveToPunch_of_some h]
    exact State.planPoint_samePlaces ((s.setTrack { s.track with reg := none, punch := some x }).setArrival
      { s.arrival with window := .closed }) rfl

theorem State.admission_track (s : State) :
    ∃ p f, s.admission.track = { s.track with permit := p, feedPermit := f } := by
  unfold State.admission
  split
  · exact ⟨_, _, rfl⟩
  split
  · exact ⟨_, _, rfl⟩
  · exact ⟨_, _, rfl⟩

end

end Sys2Proof.Machine
end

section
/-! PROOFS. Law 2, its mechanism: the LANE is first in, first out. -/

namespace Sys2Proof.Machine

open Sys2Proof.Safety

/-- The seqs of the LANE from its head on. -/
def Track.laneSeqs (t : Track) : List Nat := t.lane.map (·.sheet.seq)

theorem Track.laneSeqs_congr {t u : Track} (h : u.lane.map (·.sheet) = t.lane.map (·.sheet)) : u.laneSeqs = t.laneSeqs := by
  have hseq := congrArg (List.map Sheet.seq) h
  rwa [List.map_map, List.map_map] at hseq

theorem Track.drillHole_laneSeqs (t : Track) : t.drillHole.laneSeqs = t.laneSeqs := by
  rw [Track.laneSeqs, Track.drillHole, List.map_map]
  refine List.map_congr_left fun e _ => ?_
  simp only [Function.comp_apply]
  split <;> rfl

section
variable (s : State)

theorem State.halt_laneSeqs (c : HaltCause) : (s.halt c).track.laneSeqs = s.track.laneSeqs := by
  obtain h | h := s.halt_track c <;> rw [h]
  rfl

theorem State.spoil_laneSeqs (id : Nat) (reason : Reason) (q v : Nat) :
    (s.spoil id reason q v).track.laneSeqs = s.track.laneSeqs :=
  Track.laneSeqs_congr (s.spoil_samePlaces id reason q v).lane

theorem State.finishBoard_laneSeqs : s.finishBoard.track.laneSeqs = s.track.laneSeqs :=
  Track.laneSeqs_congr s.track.boardBack_sheets

theorem State.nextHole_laneSeqs : s.nextHole.track.laneSeqs = s.track.laneSeqs := by
  unfold State.nextHole
  split
  · simp
  · exact s.finishBoard_laneSeqs

theorem State.countHole_laneSeqs : s.countHole.track.laneSeqs = s.track.laneSeqs := by
  simpa [State.countHole] using s.track.drillHole_laneSeqs

theorem State.holeDone_laneSeqs : s.holeDone.track.laneSeqs = s.track.laneSeqs := by
  unfold State.holeDone
  split
  · split
    · exact (State.nextHole_laneSeqs _).trans s.countHole_laneSeqs
    · simpa [State.suspendBoard] using s.countHole_laneSeqs
    · exact (State.finishBoard_laneSeqs _).trans s.countHole_laneSeqs
    · rfl
  · rfl

theorem State.stepExpiry_laneSeqs : s.stepExpiry.track.laneSeqs = s.track.laneSeqs := by
  unfold State.stepExpiry
  split
  · refine (State.halt_laneSeqs _ _).trans ?_
    dsimp only
    split
    · exact State.spoil_laneSeqs _ _ _ _ _
    · rfl
  · rfl

theorem State.leadEdge_laneSeqs : s.leadEdge.track.laneSeqs = s.track.laneSeqs := by
  unfold State.leadEdge
  split
  · exact s.halt_laneSeqs _
  split
  · simp [Track.noPermit, Track.laneSeqs]
  split
  · simp [Track.noPermit, Track.laneSeqs]
  · simp [State.admitSheet, Track.noPermit, Track.laneSeqs]

theorem State.contactOpens_laneSeqs : s.contactOpens.track.laneSeqs = s.track.laneSeqs := by
  unfold State.contactOpens
  dsimp only
  split
  · unfold State.dieGone
    split
    · simp
    · simp
    · exact (State.halt_laneSeqs _ _).trans (by simp)
  · rfl

theorem State.skewPulse_places : s.skewPulse.track.lane = s.track.lane ∧ s.skewPulse.track.notch = s.track.notch := by
  unfold State.skewPulse
  split
  · split <;> exact ⟨rfl, rfl⟩
  · exact ⟨rfl, rfl⟩

theorem State.closePunch_laneSeqs (ready : Bool) : (s.closePunch ready).track.laneSeqs = s.track.laneSeqs := by
  have hfail (x : Sheet) (reason : Reason) : (s.failAtClose x reason).track.laneSeqs = s.track.laneSeqs :=
    State.spoil_laneSeqs _ _ _ _ _
  unfold State.closePunch
  split
  · simp
  split
  · simp
  split
  · exact hfail _ _
  split
  · rfl
  · exact hfail _ _

theorem State.closeEvent_laneSeqs (ready : Bool) : (s.closeEvent ready).track.laneSeqs = s.track.laneSeqs := by
  have hpunch := s.closePunch_laneSeqs ready
  unfold State.closeEvent
  dsimp only
  split
  · exact hpunch
  split
  · split <;> exact hpunch
  · exact hpunch

end

/-- The LANE loses entries from its head, and gains at its tail the record that stood at NOTCH. -/
def LaneStep (s t : State) : Prop :=
  ∃ (k : Nat) (l : List Nat), t.track.laneSeqs = s.track.laneSeqs.drop k ++ l ∧ (k ≤ 1 ∨ t.track.lane = [])
    ∧ (l = [] ∨ ∃ x, s.track.notch = some x ∧ x.route ≠ .reject ∧ l = [x.seq])

section
variable {s t : State}

theorem laneStep_of_eq (h : t.track.laneSeqs = s.track.laneSeqs) : LaneStep s t :=
  ⟨0, [], by simp [h], .inl (by omega), .inl rfl⟩

theorem laneStep_of_nil (h : t.track.lane = []) : LaneStep s t :=
  ⟨s.track.laneSeqs.length, [], by simp [Track.laneSeqs, h], .inr h, .inl rfl⟩

theorem laneStep_of_pop (h : t.track = s.track.popLane) : LaneStep s t :=
  ⟨1, [], by simp [h, Track.popLane, Track.laneSeqs], .inl (by omega), .inl rfl⟩

/-- An OPEN takes the head at most (R72). -/
theorem laneStep_openEvent (s : State) : LaneStep s s.openEvent := by
  have hcount : s.countStroke.track = s.track := by simp
  unfold State.openEvent State.handOver
  split
  · exact laneStep_of_eq (by rw [hcount])
  split
  · exact laneStep_of_eq (by rw [hcount])
  unfold State.offerHead
  split
  · exact laneStep_of_eq (by rw [hcount])
  split
  · exact laneStep_of_pop (by simp [State.dumpSheet])
  split
  · exact laneStep_of_pop (by simp [State.stackSheet])
  · exact laneStep_of_eq (by rw [hcount])

/-- The LANE after an ADVANCE: the NOTCH record at its tail, when it goes there (R67 to R70). -/
theorem State.advanceEvent_laneSheets (s : State) : s.advanceEvent.track.lane.map (·.sheet) =
    s.track.lane.map (·.sheet) ++ ((s.track.notch.map (·.laneEntries)).getD []).map (·.sheet) := by
  set u := (s.setCycle { s.cycle with outstanding := true }).emit .advanceOut
  obtain ⟨p, f, hadmission⟩ := u.lapsePermit.divert.moveToNotch.moveToPunch.admission_track
  have hlane := u.lapsePermit.divert.moveToNotch.moveToPunch_samePlaces.lane
  change (State.admission _).track.lane.map _ = _
  rw [hadmission]
  refine hlane.trans ?_
  simp [State.moveToNotch_track, State.divert_track, State.lapsePermit_track, u]

theorem laneStep_advanceEvent (s : State) : LaneStep s s.advanceEvent := by
  have h := congrArg (List.map (·.seq)) s.advanceEvent_laneSheets
  simp only [List.map_map, List.map_append] at h
  refine ⟨0, _, h, .inl (by omega), ?_⟩
  cases hx : s.track.notch with
  | none => exact .inl rfl
  | some x =>
    cases hroute : x.route with
    | reject => exact .inl (by simp [Sheet.laneEntries, hroute])
    | punch | drill => exact .inr ⟨x, rfl, by simp [hroute], by simp [Sheet.laneEntries, hroute]⟩

theorem laneStep_countPulse (s : State) (ready : Bool) : LaneStep s (s.countPulse ready) := by
  unfold State.countPulse
  split
  · dsimp only
    split
    · refine laneStep_of_eq ?_
      unfold State.cycleStart
      split
      · exact State.halt_laneSeqs _ _
      · unfold State.completeCycle
        dsimp only
        split <;> simp
    split
    · exact laneStep_of_eq (State.closeEvent_laneSeqs _ _)
    split
    · exact laneStep_openEvent (s.setCycle _)
    split
    · exact laneStep_advanceEvent (s.setCycle _)
    · exact laneStep_of_eq rfl
  · exact laneStep_of_eq rfl

theorem Act.laneStep {c : Instr} (h : Act c s t) : LaneStep s t := by
  cases h with
  | stop => exact laneStep_of_nil (by rw [s.stopLine_track.1]; rfl)
  | cancelQueued _ _ id => exact laneStep_of_eq rfl
  | encPulse _ ready =>
    obtain ⟨k, l, hlane, hk, hl⟩ := laneStep_countPulse s.skewPulse ready
    obtain ⟨hsame, hnotch⟩ := s.skewPulse_places
    rw [show s.skewPulse.track.laneSeqs = s.track.laneSeqs by simp only [Track.laneSeqs, hsame]] at hlane
    exact ⟨k, l, hlane, hk, hnotch ▸ hl⟩
  | cancelSpoil _ _ id => exact laneStep_of_eq (s.spoil_laneSeqs _ _ _ _)
  | drillResume => exact laneStep_of_eq ((State.nextHole_laneSeqs _).trans (by simp))
  | leadEdge => exact laneStep_of_eq s.leadEdge_laneSeqs
  | holeDone => exact laneStep_of_eq s.holeDone_laneSeqs
  | stepExpiry => exact laneStep_of_eq s.stepExpiry_laneSeqs
  | contactOpens => exact laneStep_of_eq s.contactOpens_laneSeqs
  | feedExpiry =>
    unfold State.feedExpiry
    split
    · exact laneStep_of_eq (State.halt_laneSeqs _ _)
    · exact laneStep_of_eq rfl
  | closeExpiry =>
    unfold State.closeExpiry
    split
    · exact laneStep_of_eq (State.halt_laneSeqs _ _)
    · exact laneStep_of_eq rfl
  | frontLay _ _ lay =>
    unfold State.frontLay
    split
    · exact laneStep_of_eq rfl
    · exact laneStep_of_eq rfl
    · split <;> exact laneStep_of_eq rfl
  | gauge _ _ ok r =>
    unfold State.gauge
    split <;> exact laneStep_of_eq rfl
  | markRead _ _ ok r =>
    unfold State.markRead
    split <;> exact laneStep_of_eq rfl
  | caliperDone _ _ um =>
    unfold State.caliperDone
    split <;> exact laneStep_of_eq rfl
  | watchExpiry =>
    unfold State.watchExpiry
    split
    · exact laneStep_of_eq rfl
    · dsimp only
      split <;> exact laneStep_of_eq (by simp [Track.laneSeqs])
  | advanceDone =>
    unfold State.advanceDone
    split <;> exact laneStep_of_eq rfl
  | idle | contact | run | drain | setFormat | queueBook | setProfile | setPins | drillSuspend | setDrillBit
  | supply | setWatch | readEvents | resumeMark | cutDone | closeDone | contactCloses | readComplete =>
    exact laneStep_of_eq (by simp)

end

/-- Settles O10: an OPEN takes the head, an ADVANCE adds the NOTCH record, STOP and a restart empty the LANE, and no
other act moves it. -/
theorem laneMovesInOrder : Obligations.LaneMovesInOrder := by
  unfold Obligations.LaneMovesInOrder
  intro c s t h
  obtain hr | ⟨l, line, -, -, v, l', hact, rfl, -⟩ := exec_cases c s t h
  · obtain ⟨-, -, -, -, -, -, -, -, -, htrack, -⟩ := hr.fields
    exact laneStep_of_nil (by rw [htrack]; rfl)
  · exact hact.laneStep (s := s.readied l line)

end Sys2Proof.Machine
end

section
/-! PROOFS. Law 3, its second part: a SPOILED record that nothing holds does not outlive the step (R19). -/

namespace Sys2Proof.Machine

open Sys2Proof.Safety

/-! ### What holds a spoiled record -/

/-- The track holds a record of a book. -/
def Track.BookAt (t : Track) (id : Nat) : Prop :=
  t.reg.map (·.book) = some id ∨ t.punch.map (·.book) = some id ∨ t.notch.map (·.book) = some id
    ∨ ∃ e ∈ t.lane, e.sheet.book = id

/-- What keeps a SPOILED record of a book: a sheet, the permit, the tray, the Wire Feed or the Closer (R19). -/
def State.Holds (s : State) (id : Nat) : Prop :=
  s.track.BookAt id ∨ s.track.permit.map (·.book) = some id ∨ s.tray.book? = some id ∨ s.wire.feeder.book? = some id
    ∨ s.closer.mode.book? = some id

theorem Track.holdsBook_iff (t : Track) (id : Nat) : t.holdsBook id = true ↔ t.BookAt id := by
  simp [Track.holdsBook, Track.sheets, Track.BookAt]

theorem Track.permitFor_iff (t : Track) (id : Nat) : t.permitFor id = true ↔ t.permit.map (·.book) = some id := by
  unfold Track.permitFor
  split <;> simp [*]

theorem State.removable_eq_false (s : State) (b : Book) :
    s.removable b = false ↔ (b.state = .spoiled → s.Holds b.id) := by
  rw [← Bool.not_eq_true, State.removable]
  simp only [Bool.and_eq_true, Bool.not_eq_true', beq_iff_eq, ← Bool.not_eq_true, Track.holdsBook_iff,
    Track.permitFor_iff, State.Holds]
  tauto

/-- Every SPOILED record is held. -/
def State.Swept (s : State) : Prop := ∀ b ∈ s.books, b.state = .spoiled → s.Holds b.id

theorem spoiledRemoved_iff (s : State) : SpoiledRemoved s ↔ s.Swept :=
  forall₂_congr fun b _ => s.removable_eq_false b

theorem State.swept_sweep (s : State) : s.sweep.Swept := by
  rw [← spoiledRemoved_iff]
  exact fun b hb => ((s.mem_sweep b).mp hb).2

section
variable {s t : State}

/-- No record becomes SPOILED, and what held one holds it still. -/
theorem State.Swept.mono (h : s.Swept)
    (hbooks : ∀ b ∈ t.books, b.state = .spoiled → ∃ b' ∈ s.books, b'.state = .spoiled ∧ b'.id = b.id)
    (hheld : ∀ b ∈ t.books, s.Holds b.id → t.Holds b.id) : t.Swept := by
  intro b hb hspoiled
  obtain ⟨b', hb', hspoiled', hid⟩ := hbooks b hb hspoiled
  exact hheld b hb (hid ▸ h b' hb' hspoiled')

theorem State.Swept.of_eq (h : s.Swept) (hbooks : t.books = s.books) (hheld : ∀ id, s.Holds id → t.Holds id) : t.Swept :=
  h.mono (fun b hb hspoiled => ⟨b, hbooks ▸ hb, hspoiled, rfl⟩) fun _ _ => hheld _

/-- A book's record is changed, which does not make it SPOILED. -/
theorem State.Swept.updateBook (h : s.Swept) (id : Nat) (f : Book → Book) (hid : ∀ b, (f b).id = b.id)
    (hf : ∀ b, (f b).state = .spoiled → b.state = .spoiled) : (s.updateBook id f).Swept := by
  refine h.mono (fun b hb hspoiled => ?_) fun _ _ hheld => hheld
  rw [State.updateBook_books, changeBook, List.mem_map] at hb
  obtain ⟨b', hb', rfl⟩ := hb
  split at hspoiled
  · exact ⟨b', hb', hf b' hspoiled, by rw [if_pos ‹_›, hid]⟩
  · exact ⟨b', hb', hspoiled, by rw [if_neg ‹_›]⟩

theorem State.Swept.push (h : s.Swept) (e : Event) : (s.push e).Swept := h.of_eq (by simp) (fun _ => by simp [State.Holds])

theorem State.Swept.lineTo (h : s.Swept) (m : Mode) : (s.lineTo m).Swept :=
  h.of_eq (by simp) fun _ => by simp [State.Holds]

theorem State.Swept.halt (h : s.Swept) (c : HaltCause) : (s.halt c).Swept := by
  unfold State.halt
  split
  · exact h.push _
  · exact State.swept_sweep _

theorem State.Swept.spoil (h : s.Swept) (id : Nat) (reason : Reason) (q v : Nat) : (s.spoil id reason q v).Swept := by
  obtain ⟨-, he⟩ | ⟨b, -, -, he⟩ := s.spoil_cases id reason q v
  · rwa [he]
  · rw [he]
    exact State.swept_sweep _

theorem State.Swept.judgeDrainEnd (h : s.Swept) : s.judgeDrainEnd.Swept := h.of_eq (by simp) (fun _ => by simp [State.Holds])

theorem State.Swept.enterDraining (h : s.Swept) : s.enterDraining.Swept := h.of_eq (by simp) (fun _ => by simp [State.Holds])

/-! ### The wire and the Closer -/

theorem State.startCut_served (s : State) (b : Book) (first : Bool) : (s.startCut b first).wire.feeder.book? = some b.id := by
  obtain ⟨-, he⟩ | ⟨-, he⟩ := s.startCut_cases b first
  · rw [he]
    simp [Feeder.book?]
  · rw [he]
    split <;> simp [Feeder.book?]

theorem State.Swept.startCut (h : s.Swept) (b : Book) (first : Bool)
    (hserved : ∀ id, s.wire.feeder.book? = some id → id = b.id) : (s.startCut b first).Swept := by
  refine h.of_eq (by simp) fun id hid => ?_
  have hid' : s.wire.feeder.book? = some id → some b.id = some id := fun hf => by rw [hserved id hf]
  simp only [State.Holds, s.startCut_served b first, State.startCut_frame] at hid ⊢
  tauto

theorem State.Swept.wireStart (h : s.Swept) : s.wireStart.Swept := by
  obtain he | ⟨id, b, hidle, -, -, -, he⟩ := s.wireStart_cases
  · rwa [he]
  · rw [he]
    exact h.startCut b true (by simp [hidle, Feeder.book?])

theorem State.swept_dropCut (s : State) : s.dropCut.Swept := (State.swept_sweep _).wireStart

theorem State.Swept.judgeCloser (h : s.Swept) : s.judgeCloser.Swept := by
  obtain he | ⟨id, l, b, htray, hcloser, hcut, -, hb, ⟨-, -, he⟩ | ⟨-, he⟩⟩ := s.judgeCloser_cases
  · rwa [he]
  · rw [he]
    exact h.of_eq (by simp) (fun _ => by simp [State.Holds])
  · obtain rfl := State.book?_id hb
    have hupdated : (s.updateBook b.id fun b => { b with state := .closing }).Swept :=
      h.updateBook b.id _ (fun _ => rfl) (fun _ hspoiled => by cases hspoiled)
    rw [he]
    refine hupdated.of_eq rfl fun id hid => ?_
    simp [State.Holds, State.startClose, htray, hcloser, hcut, Tray.book?, Feeder.book?, CloserMode.book?] at hid ⊢
    tauto

/-! ### The track -/

theorem State.Swept.setTrack (h : s.Swept) (t : Track) (hbooks : ∀ id, s.track.BookAt id → t.BookAt id)
    (hpermit : t.permit = s.track.permit) : (s.setTrack t).Swept :=
  h.of_eq rfl fun id => Or.imp (hbooks id) fun hrest => by simpa [hpermit] using hrest

theorem State.Swept.updateReg (h : s.Swept) (f : Sheet → Sheet) (hf : ∀ x, (f x).book = x.book) : (s.updateReg f).Swept :=
  h.setTrack _ (fun id => by simp [Track.BookAt, Function.comp_def, hf]) rfl

theorem State.Swept.finishBoard (h : s.Swept) : s.finishBoard.Swept :=
  (h.setTrack s.track.boardBack (fun id => by simp [Track.BookAt, Track.boardBack]) rfl).of_eq rfl fun _ => id

theorem State.Swept.nextHole (h : s.Swept) : s.nextHole.Swept := by
  unfold State.nextHole
  split
  · exact h.of_eq (by simp) (fun _ => by simp [State.Holds])
  · exact h.finishBoard

theorem State.Swept.countHole (h : s.Swept) : s.countHole.Swept := by
  have hbooks (e : LaneEntry) : (if e.away then { e with sheet := { e.sheet with holesDrilled := e.sheet.holesDrilled + 1 } }
      else e).sheet.book = e.sheet.book := by split <;> rfl
  have hdrilled : (s.setTrack s.track.drillHole).Swept :=
    h.setTrack _ (fun id => by simp [Track.BookAt, Track.drillHole, hbooks]) rfl
  exact hdrilled.of_eq (by simp [State.countHole]) fun _ => by simp [State.Holds, State.countHole]

theorem State.Swept.holeDone (h : s.Swept) : s.holeDone.Swept := by
  unfold State.holeDone
  split
  · split
    · exact h.countHole.nextHole
    · exact h.countHole.of_eq (by simp) (fun _ => by simp [State.Holds])
    · exact h.countHole.finishBoard
    · exact h
  · exact h

theorem State.Swept.stepExpiry (h : s.Swept) : s.stepExpiry.Swept := by
  have hset (d : Drill) : (s.setDrill d).Swept := h.of_eq rfl fun _ => id
  unfold State.stepExpiry
  split
  · refine State.Swept.halt ?_ _
    dsimp only
    split
    · exact (hset _).spoil _ _ _ _
    · exact h
  · exact h

theorem State.Swept.leadEdge (h : s.Swept) : s.leadEdge.Swept := by
  unfold State.leadEdge
  split
  · exact h.halt _
  split
  · exact State.swept_sweep _
  split
  · exact State.swept_sweep _
  · exact State.swept_sweep _

/-! ### The stroke cycle -/

theorem State.Swept.setPunch {x y : Sheet} (h : s.Swept) (hx : s.track.punch = some x) (hy : y.book = x.book) :
    (s.setPunch y).Swept :=
  h.setTrack _ (fun id => by simp [Track.BookAt, hx, hy]) rfl

theorem State.Swept.nullStroke (h : s.Swept) : s.nullStroke.Swept := h.of_eq (by simp) (fun _ => by simp [State.Holds])

theorem State.Swept.failAtClose {x : Sheet} (h : s.Swept) (hx : s.track.punch = some x) (reason : Reason) :
    (s.failAtClose x reason).Swept :=
  (h.nullStroke.setPunch (x := x) (by simpa using hx) (by rfl)).spoil _ _ _ _

theorem State.Swept.closePunch (h : s.Swept) (ready : Bool) : (s.closePunch ready).Swept := by
  unfold State.closePunch
  split
  · exact h.nullStroke
  next x hx =>
  split
  · exact h.nullStroke
  split
  · exact h.failAtClose hx _
  split
  · exact (h.setPunch hx (y := { x with plan := x.plan.map fun p => { p with state := .applied } }) rfl).of_eq rfl fun _ => id
  · exact h.failAtClose hx _

theorem State.Swept.fireNotch (h : s.Swept) : s.fireNotch.Swept :=
  (h.setTrack { s.track with notch := s.track.notch.map fun x => { x with notchDone := true } }
    (fun id => by simp [Track.BookAt, Function.comp_def]) rfl).of_eq rfl fun _ => id

theorem State.Swept.closeEvent (h : s.Swept) (ready : Bool) : (s.closeEvent ready).Swept := by
  have hpunch := h.closePunch ready
  unfold State.closeEvent
  dsimp only
  split
  · exact hpunch.fireNotch
  split
  · split
    · exact State.Swept.fireNotch (hpunch.of_eq rfl fun _ => id)
    · exact hpunch.of_eq rfl fun _ => id
  · exact hpunch

theorem State.Swept.completeTray (h : s.Swept) {id : Nat} (htray : s.tray.book? = some id) : (s.completeTray id).Swept := by
  unfold State.completeTray
  split
  · exact h
  split
  · refine State.Swept.judgeCloser ?_
    refine (h.updateBook id (fun b => { b with state := .stacked }) (fun _ => rfl) fun _ hs => by cases hs).of_eq rfl fun _ => ?_
    simp only [State.Holds, State.updateBook_frame, htray]
    exact fun hheld => hheld
  · exact h

/-- A sheet goes from the LANE to the tray of its book (R136). -/
theorem State.Swept.stackSheet (h : s.Swept) {e : LaneEntry} {rest : List LaneEntry} (hlane : s.track.lane = e :: rest)
    (htray : s.tray.takes e.sheet.book = true) : (s.stackSheet e.sheet.book).Swept := by
  set u := (s.updateBook e.sheet.book fun b => { b with stacked := b.stacked + 1 }) with hu
  have hlaid : ((u.setTrack s.track.popLane).setTray (.building e.sheet.book)).Swept := by
    refine (h.updateBook e.sheet.book (fun b => { b with stacked := b.stacked + 1 }) (fun _ => rfl)
      fun _ hs => hs).of_eq rfl fun id hid => ?_
    have hbuilding : (Tray.building e.sheet.book).book? = some e.sheet.book := rfl
    have htray' : s.tray.book? = some id → e.sheet.book = id := by
      intro hid
      cases htr : s.tray <;> simp_all [Tray.takes, Tray.book?]
    simp [State.Holds, Track.BookAt, Track.popLane, hlane, hbuilding, hu] at hid ⊢
    grind
  have hopen : (State.openTray ((s.setTrack s.track.popLane).updateBook e.sheet.book
      fun b => { b with stacked := b.stacked + 1 }) e.sheet.book).Swept := by
    unfold State.openTray
    split
    · exact hlaid.wireStart
    · next hne =>
      refine hlaid.of_eq rfl fun _ => ?_
      cases htr : s.tray <;> simp_all [Tray.takes, Tray.book?, State.Holds]
  refine State.Swept.judgeDrainEnd (hopen.completeTray ?_)
  rw [State.openTray_tray _ _ (by simpa using htray)]
  rfl

theorem State.Swept.openEvent (h : s.Swept) : s.openEvent.Swept := by
  have hcount : s.countStroke.Swept := h.of_eq (by simp) (fun _ => by simp [State.Holds])
  unfold State.openEvent State.handOver
  split
  · exact hcount
  next e rest hlane =>
  split
  · exact hcount
  unfold State.offerHead
  split
  · exact hcount
  split
  · exact (State.swept_sweep _).judgeDrainEnd
  split
  · next htray => exact hcount.stackSheet hlane htray
  · exact hcount

theorem State.Swept.lapsePermit (h : s.Swept) : s.lapsePermit.Swept := by
  unfold State.lapsePermit
  split
  · exact h
  · exact (State.swept_sweep _).judgeDrainEnd

theorem State.Swept.divert (h : s.Swept) : s.divert.Swept := by
  unfold State.divert
  split
  · next hnotch => exact h.setTrack _ (fun id => by simp [Track.BookAt]) rfl
  next x hx =>
  split
  · exact (State.swept_sweep _).judgeDrainEnd
  · exact h.setTrack _ (fun id => by simp [Track.BookAt, hx]; grind) rfl
  · refine State.Swept.of_eq (h.setTrack { s.track with
      notch := none, diverter := .drill, lane := s.track.lane ++ [{ sheet := x, away := true }] }
      (fun id => by simp [Track.BookAt, hx]; grind) rfl) (by simp [State.departDrill]) (by simp [State.Holds, State.departDrill])

theorem State.Swept.moveToNotch (h : s.Swept) (hnotch : s.track.notch = none) : s.moveToNotch.Swept := by
  unfold State.moveToNotch
  split
  · exact h
  next x hx =>
  have hmoved := h.setTrack { s.track with punch := none, notch := some x } (fun id => by simp [Track.BookAt, hx, hnotch]) rfl
  dsimp only
  split
  · exact hmoved
  · exact hmoved.of_eq rfl fun _ => id

theorem State.Swept.planPoint {x : Sheet} (h : s.Swept) (hx : s.track.punch = some x) : (s.planPoint x).Swept := by
  unfold State.planPoint
  split
  · exact h
  split
  · exact h
  split
  · next body _ =>
    cases body with
    | punched p =>
      exact ((h.setPunch (y := { x with plan := some { state := .ready, body := .punched p }, route := .punch }) hx
        rfl).updateBook x.book (fun b => { b with tBook := some p.t }) (fun _ => rfl) fun _ hs => hs).of_eq rfl fun _ => id
    | board p =>
      exact (h.setPunch (y := { x with plan := some { state := .ready, body := .board p }, route := .drill }) hx
        rfl).updateBook x.book (fun b => { b with tBook := some p.t }) (fun _ => rfl) fun _ hs => hs
  · next reason _ =>
    exact State.Swept.spoil (h.setPunch (y := { x with route := .reject, reason := some reason, plan := none }) hx rfl) _ _ _ _

theorem State.Swept.moveToPunch (h : s.Swept) (hpunch : s.track.punch = none) : s.moveToPunch.Swept := by
  cases hreg : s.track.reg with
  | none => rwa [State.moveToPunch_of_none hreg]
  | some x =>
    rw [State.moveToPunch_of_some hreg]
    exact State.Swept.planPoint ((h.setTrack { s.track with reg := none, punch := some x }
      (fun id => by simp [Track.BookAt, hreg, hpunch]) rfl).of_eq rfl fun _ => id) rfl

theorem State.Swept.admission (h : s.Swept) (hpermit : s.track.permit = none) : s.admission.Swept := by
  obtain ⟨p, f, htrack⟩ := s.admission_track
  refine h.of_eq (by simp) fun id hid => ?_
  simp only [State.Holds, htrack, hpermit, State.admission_frame, Option.map_none, reduceCtorEq, false_or] at hid ⊢
  exact hid.imp (fun hat => hat) .inr

theorem State.Swept.advanceEvent (h : s.Swept) : s.advanceEvent.Swept := by
  set u := (s.setCycle { s.cycle with outstanding := true }).emit .advanceOut
  have hu : u.Swept := h.of_eq rfl fun _ => id
  have hdivert := hu.lapsePermit.divert
  have hnotch := hdivert.moveToNotch (by simp [State.divert_track])
  have hpunch := hnotch.moveToPunch (by simp [State.moveToNotch_track])
  refine hpunch.admission ?_
  rw [(State.moveToPunch_samePlaces _).permit]
  simp [State.moveToNotch_track, State.divert_track, State.lapsePermit_track]

theorem State.Swept.cycleStart (h : s.Swept) : s.cycleStart.Swept := by
  have hset (c : Cycle) : (s.setCycle c).Swept := h.of_eq rfl fun _ => id
  unfold State.cycleStart
  split
  · exact h.halt _
  · unfold State.completeCycle
    dsimp only
    split
    · exact (hset _).enterDraining
    · exact hset _

theorem State.Swept.countPulse (h : s.Swept) (ready : Bool) : (s.countPulse ready).Swept := by
  have hset (c : Cycle) : (s.setCycle c).Swept := h.of_eq rfl fun _ => id
  unfold State.countPulse
  split
  · dsimp only
    split
    · exact (hset _).cycleStart
    split
    · exact (hset _).closeEvent ready
    split
    · exact (hset _).openEvent
    split
    · exact (hset _).advanceEvent
    · exact hset _
  · exact h

theorem State.Swept.skewPulse (h : s.Swept) : s.skewPulse.Swept := by
  have hset (v : Arrival) : (s.setArrival v).Swept := h.of_eq rfl fun _ => id
  unfold State.skewPulse
  split
  · split
    · exact hset _
    · exact (hset _).updateReg _ fun _ => rfl
  · exact h

/-! ### The other acts -/

theorem State.Swept.frontLay (h : s.Swept) (lay : Lay) : (s.frontLay lay).Swept := by
  have hset (v : Arrival) : (s.setArrival v).Swept := h.of_eq rfl fun _ => id
  unfold State.frontLay
  split
  · exact h
  · exact hset _
  · split
    · exact h
    · exact (hset _).updateReg _ fun _ => rfl

theorem State.Swept.caliperDone (h : s.Swept) (um : Nat) : (s.caliperDone um).Swept := by
  have hset (v : Arrival) : (s.setArrival v).Swept := h.of_eq rfl fun _ => id
  unfold State.caliperDone
  split
  · exact h
  · exact (hset _).updateReg _ fun x => by split <;> rfl

theorem State.Swept.supply (h : s.Swept) (spool low hooks : Nat) : (s.supply spool low hooks).Swept := by
  unfold State.supply
  refine State.Swept.judgeCloser ?_
  set u := s.setWire { s.wire with spool := clampTo 1000000 spool, lowMark := clampTo 1000000 low, hooks := clampTo 9999 hooks }
  have hu : u.Swept := h.of_eq rfl fun _ => id
  unfold State.retryCut
  split
  · next id hwaiting =>
    split
    · next b hb => exact hu.startCut b false (by simp [hwaiting, Feeder.book?, State.book?_id hb])
    · exact hu
  · exact hu

theorem State.Swept.cutDone (h : s.Swept) : s.cutDone.Swept := by
  unfold State.cutDone
  split
  · next id loops ms hfeeding =>
    split
    · exact s.swept_dropCut
    · exact State.Swept.judgeCloser (h.of_eq rfl fun _ => by simp [State.Holds, hfeeding, Feeder.book?])
  · exact h

theorem State.Swept.feedExpiry (h : s.Swept) : s.feedExpiry.Swept := by
  unfold State.feedExpiry
  split
  · next id loops ms hfeeding =>
    have hset : (s.setWire { s.wire with feeder := .feeding id loops .timedOut }).Swept :=
      h.of_eq rfl fun _ => by simp [State.Holds, hfeeding, Feeder.book?]
    exact hset.halt _
  · exact h

theorem State.Swept.closeExpiry (h : s.Swept) : s.closeExpiry.Swept := by
  unfold State.closeExpiry
  split
  · next id limit ms hclosing =>
    have hset : (s.setCloser { s.closer with mode := .closing id limit .timedOut }).Swept :=
      h.of_eq rfl fun _ => by simp [State.Holds, hclosing, CloserMode.book?]
    exact hset.halt _
  · exact h

/-- The closed book's record goes with the Closer's hold on it (R18). -/
theorem State.Swept.closeDone (h : s.Swept) : s.closeDone.Swept := by
  unfold State.closeDone
  split
  · next id limit ms hclosing =>
    refine State.Swept.judgeCloser (h.mono (fun b hb hspoiled => ?_) fun b hb hheld => ?_)
    · exact ⟨b, (List.mem_filter.mp hb).1, hspoiled, rfl⟩
    · have hne : b.id ≠ id := by simpa using (List.mem_filter.mp hb).2
      simpa [State.Holds, hclosing, CloserMode.book?, hne.symm] using hheld
  · exact h

theorem State.Swept.contactOpens (h : s.Swept) : s.contactOpens.Swept := by
  have hset (v : Die) : (s.setDie v).Swept := h.of_eq rfl fun _ => id
  unfold State.contactOpens
  dsimp only
  split
  · have hgone := (hset { s.die with contact := false, iface := .empty }).push
    unfold State.dieGone
    split
    · exact (hgone _).lineTo _
    · exact hgone _
    · exact (hgone _).halt _
  · exact hset _

theorem State.Swept.watchExpiry (h : s.Swept) : s.watchExpiry.Swept := by
  unfold State.watchExpiry
  split
  · exact h
  have hstopped : (s.setLine { s.line with watchTimer := .stopped }).Swept := h.of_eq rfl fun _ => id
  have hpushed := hstopped.push (plainEvent .watchExpired 0 s.line.watchPeriod)
  dsimp only
  split
  · refine State.Swept.enterDraining ?_
    exact hpushed.setTrack _ (fun _ hat => hat) rfl
  · exact hpushed.of_eq rfl fun _ => id

theorem Act.swept {c : Instr} (hact : Act c s t) (h : s.Swept) : t.Swept := by
  cases hact with
  | stop => exact (State.swept_sweep _).lineTo _
  | queueBook _ _ id slot hanger leaves =>
    refine h.mono (fun b hb hspoiled => ?_) fun _ _ hheld => hheld
    obtain hb | hb := List.mem_append.mp hb
    · exact ⟨b, hb, hspoiled, rfl⟩
    · obtain rfl := List.mem_singleton.mp hb
      cases hspoiled
  | cancelSpoil _ _ id => exact h.spoil _ _ _ _
  | cancelQueued _ _ id =>
    exact h.mono (fun b hb hspoiled => ⟨b, (List.mem_filter.mp hb).1, hspoiled, rfl⟩) fun _ _ hheld => hheld
  | drillResume =>
    exact State.Swept.nextHole (h.of_eq (by simp) fun _ => by simp [State.Holds])
  | supply _ _ spool low hooks => exact h.supply _ _ _
  | encPulse _ ready => exact h.skewPulse.countPulse ready
  | leadEdge => exact h.leadEdge
  | frontLay _ _ lay => exact h.frontLay lay
  | gauge _ _ ok r =>
    unfold State.gauge
    split
    · exact h.updateReg _ fun _ => rfl
    · exact h
  | markRead _ _ ok r =>
    unfold State.markRead
    split
    · exact h.updateReg _ fun _ => rfl
    · exact h
  | caliperDone _ _ um => exact h.caliperDone um
  | advanceDone =>
    unfold State.advanceDone
    split
    · exact h.of_eq rfl fun _ => id
    · exact h
  | holeDone => exact h.holeDone
  | stepExpiry => exact h.stepExpiry
  | cutDone => exact h.cutDone
  | feedExpiry => exact h.feedExpiry
  | closeDone => exact h.closeDone
  | closeExpiry => exact h.closeExpiry
  | contactOpens => exact h.contactOpens
  | watchExpiry => exact h.watchExpiry
  | idle | contact | run | drain | setFormat | setProfile | setPins | drillSuspend | setDrillBit | setWatch | readEvents
  | resumeMark | contactCloses | readComplete => exact h.of_eq (by simp) fun _ => by simp [State.Holds]

end

/-- Every step removes each SPOILED record that it frees. -/
theorem step_keeps_spoiledRemoved (s t : State) (hs : SpoiledRemoved s) (h : step s = .next t) : SpoiledRemoved t := by
  rw [spoiledRemoved_iff] at hs ⊢
  refine step_keeps (P := State.Swept) ?_ (fun _ _ _ _ => id) (fun _ _ => id) (fun _ _ => id) (fun _ _ _ => Act.swept) s t hs h
  intro s t hr b hb
  obtain ⟨-, -, -, -, -, -, hbooks, -⟩ := hr.fields
  simp [hbooks] at hb

/-- Settles O4: the records stay apart, and a SPOILED record goes with the last thing that held it. -/
theorem bookRecordsKept : Obligations.BookRecordsKept := by
  unfold Obligations.BookRecordsKept
  exact ⟨step_keeps_booksDistinct, step_keeps_spoiledRemoved⟩

end Sys2Proof.Machine
end

section
/-! PROOFS. The step and the reset state. -/

namespace Sys2Proof.Machine

open Sys2Proof.Safety

/-- Settles O1: by the two cases of the queue. -/
theorem stepTakesFront : Obligations.StepTakesFront := by
  unfold Obligations.StepTakesFront
  refine ⟨fun c s => rfl, fun s h => ?_⟩
  unfold step
  rw [h]

theorem restarted_reset : Restarted State.reset State.reset :=
  .inl ⟨State.reset.line.startCause, State.reset.link.rate, State.reset.die.contact, State.reset.resetLow, rfl⟩

/-- Settles O2: the laws hold of the reset state as after every restart, and its values are read off. -/
theorem resetMeetsLaws : Obligations.ResetMeetsLaws := by
  unfold Obligations.ResetMeetsLaws
  have hacc : State.reset.Accounted := restarted_reset.accounted
  have hstation : StationAgrees State.reset := (stationAgrees_iff hacc.ids).mpr restarted_reset.station
  have hslots : SlotCountsAgree State.reset := (slotCountsAgree_iff _).mpr restarted_reset.locked
  have ⟨hline, hdie⟩ : ModesAgree State.reset := restarted_reset.modesAgree
  exact ⟨by decide, by decide, by decide, (sheetsAccounted_iff _).mpr hacc, by decide, by decide, hline, hdie,
    restarted_reset.profilesValid, hstation, hslots, rfl, rfl, rfl, rfl, rfl, rfl, rfl, rfl, rfl, rfl, rfl, rfl, rfl,
    fun r => rfl⟩

end Sys2Proof.Machine
end

section
/-! PROOFS. Every known request is answered, and a refused one changes nothing (R172, R173). -/

namespace Sys2Proof.Machine

open Sys2Proof.Safety

/-! ### The known requests by their kind -/

/-- The request command of a kind. -/
def requestInstr (r : RequestKind) (tag : Byte) (body : List Byte) : Instr :=
  match r with
  | .identify => .identify tag body
  | .readStatus => .readStatus tag body
  | .run => .run tag body
  | .drain => .drain tag body
  | .stop => .stop tag body
  | .restart => .restart tag body
  | .setFormat => .setFormat tag body
  | .readFormat => .readFormat tag body
  | .queueBook => .queueBook tag body
  | .cancelBook => .cancelBook tag body
  | .readBook => .readBook tag body
  | .readTrack => .readTrack tag body
  | .setProfile => .setProfile tag body
  | .readProfile => .readProfile tag body
  | .withdrawPin => .withdrawPin tag body
  | .restorePin => .restorePin tag body
  | .readPins => .readPins tag body
  | .presetPinCounts => .presetPinCounts tag body
  | .readDie => .readDie tag body
  | .drillSuspend => .drillSuspend tag body
  | .drillResume => .drillResume tag body
  | .setDrillBit => .setDrillBit tag body
  | .setWireSupply => .setWireSupply tag body
  | .setWatch => .setWatch tag body
  | .readEvents => .readEvents tag body
  | .readLinkErrors => .readLinkErrors tag body

theorem exec_requestInstr (r : RequestKind) (tag : Byte) (body : List Byte) (s : State) :
    exec (requestInstr r tag body) s = s.request (kindByte r) tag body := by
  cases r <;> rfl

theorem requests_eq (tag : Byte) (body : List Byte) :
    requests tag body = requestKinds.map fun r => (kindByte r, requestInstr r tag body) := rfl

/-- A known request is the good frame of its kind. -/
theorem exists_kind_of_mem_requests {tag : Byte} {body : List Byte} {kind : Byte} {c : Instr}
    (h : (kind, c) ∈ requests tag body) : ∃ r, kind = kindByte r ∧ c = requestInstr r tag body := by
  rw [requests_eq] at h
  obtain ⟨r, -, hr⟩ := List.mem_map.mp h
  obtain ⟨hkind, hc⟩ := Prod.mk.inj hr
  exact ⟨r, hkind.symm, hc.symm⟩

/-! ### A response accepts, or refuses in the state it was asked in -/

/-- A response that is not OK is a refusal in the state `s`. -/
def Response.Answers (s : State) (r : Response) : Prop := r.status ≠ .ok → r = s.refuse r.status

section
variable (s : State)

theorem Response.answers_refuse (status : Status) : (s.refuse status).Answers s := fun _ => rfl

theorem Response.answers_accept (t : State) (body : List Byte) : (t.accept body).Answers s := fun h => absurd rfl h

theorem Response.answers_ite {c : Prop} [Decidable c] {a b : Response} (ha : a.Answers s) (hb : b.Answers s) :
    (if c then a else b).Answers s := by
  split
  · exact ha
  · exact hb

open Response in
theorem ownerAnswer_answers (r : RequestKind) (body : List Byte) : (ownerAnswer r body s).Answers s := by
  have bodyless (t : State) (reply : List Byte) :
      (if body.length ≠ 0 then s.refuse .badLength else t.accept reply).Answers s :=
    answers_ite s (answers_refuse s _) (answers_accept s _ _)
  have pin (x : PinState) : (setPinRequest x body s).Answers s := by
    refine answers_ite s (answers_refuse s _) (answers_ite s (answers_refuse s _) ?_)
    split
    · exact answers_ite s (answers_accept s _ _) (answers_refuse s _)
    · exact answers_refuse s _
  cases r with
  | identify | readStatus | stop | restart | readTrack | readProfile | readDie => exact bodyless _ _
  | withdrawPin | restorePin => exact pin _
  | run | drain =>
    exact answers_ite s (answers_refuse s _) (answers_ite s (answers_refuse s _) (answers_accept s _ _))
  | setProfile | drillResume | readEvents =>
    exact answers_ite s (answers_refuse s _) (answers_ite s (answers_accept s _ _) (answers_refuse s _))
  | setDrillBit | setWireSupply => exact answers_ite s (answers_refuse s _) (answers_accept s _ _)
  | drillSuspend =>
    exact answers_ite s (answers_refuse s _) (answers_ite s (answers_refuse s _) (answers_ite s (answers_refuse s _)
      (answers_accept s _ _)))
  | setFormat =>
    refine answers_ite s (answers_refuse s _) (answers_ite s (answers_refuse s _) (answers_ite s (answers_refuse s _) ?_))
    split
    · exact answers_refuse s _
    · exact answers_ite s (answers_accept s _ _) (answers_refuse s _)
  | readFormat =>
    refine answers_ite s (answers_refuse s _) (answers_ite s (answers_refuse s _) ?_)
    split
    · exact answers_refuse s _
    · exact answers_accept s _ _
  | queueBook =>
    iterate 5 refine answers_ite s (answers_refuse s _) ?_
    split
    · exact answers_refuse s _
    split
    · exact answers_refuse s _
    · exact answers_accept s _ _
  | cancelBook =>
    refine answers_ite s (answers_refuse s _) (answers_ite s (answers_refuse s _) ?_)
    dsimp only
    split
    · exact answers_refuse s _
    split
    · exact answers_ite s (answers_accept s _ _) (answers_accept s _ _)
    · exact answers_accept s _ _
    · exact answers_accept s _ _
    · exact answers_accept s _ _
    · exact answers_refuse s _
    · exact answers_accept s _ _
  | readBook =>
    refine answers_ite s (answers_refuse s _) (answers_ite s (answers_accept s _ _) ?_)
    split
    · exact answers_refuse s _
    · exact answers_accept s _ _
  | readPins =>
    refine answers_ite s (answers_refuse s _) (answers_ite s (answers_refuse s _) ?_)
    split
    · exact answers_refuse s _
    · exact answers_accept s _ _
  | presetPinCounts =>
    refine answers_ite s (answers_refuse s _) (answers_ite s (answers_refuse s _) ?_)
    split
    · exact answers_ite s (answers_accept s _ _) (answers_refuse s _)
    · exact answers_refuse s _
  | setWatch =>
    refine answers_ite s (answers_refuse s _) ?_
    split
    · exact answers_refuse s _
    · exact answers_accept s _ _
  | readLinkErrors =>
    refine answers_ite s (answers_refuse s _) ?_
    dsimp only
    split
    · exact answers_refuse s _
    · exact answers_accept s _ _
    · exact answers_accept s _ _

end

/-! ### The bytes of a reply -/

/-- The bytes of a reply with its codes spelled out (R164, R165, R176). -/
theorem Reply.bytes_eq (r : Reply) : r.bytes =
    let covered : List Byte := le16 (r.body.length + 5)
      ++ [r.kind, r.tag,
          match r.status with
          | .ok => 0x00 | .unknownKind => 0x01 | .badLength => 0x02 | .badValue => 0x03 | .wrongState => 0x04
          | .full => 0x05 | .inUse => 0x06 | .notFound => 0x07 | .mismatch => 0x08 | .tooSoon => 0x09,
          byte r.eventCount,
          match r.mode with | .noDie => 0 | .ready => 1 | .running => 2 | .draining => 3 | .halted => 4]
      ++ r.body
    [0xC3] ++ covered ++ le16 (crc covered).toNat := by
  obtain ⟨kind, tag, status, eventCount, mode, body⟩ := r
  have hstatus : status.code = match status with
      | .ok => 0x00 | .unknownKind => 0x01 | .badLength => 0x02 | .badValue => 0x03 | .wrongState => 0x04
      | .full => 0x05 | .inUse => 0x06 | .notFound => 0x07 | .mismatch => 0x08 | .tooSoon => 0x09 := by
    cases status <;> rfl
  have hmode : byte mode.code = match mode with
      | .noDie => 0 | .ready => 1 | .running => 2 | .draining => 3 | .halted => 4 := by
    cases mode <;> rfl
  simp only [Reply.bytes, frameBytes, hstatus, hmode]
  simp

/-- Settles O13: the reply's bytes by their codes, and each known request by its owner's response, which is a refusal in
the state it is heard in or accepts. -/
theorem everyRequestAnswered : Obligations.EveryRequestAnswered := by
  unfold Obligations.EveryRequestAnswered
  refine ⟨Reply.bytes_eq, fun s tag body kind c h hc => ?_⟩
  obtain ⟨r, rfl, rfl⟩ := exists_kind_of_mem_requests hc
  set response := ownerAnswer r body (heard s) with hresponse
  refine ⟨response.replied (kindByte r) tag, response.status, response.body, ?_, rfl, fun hstatus => ?_⟩
  · rw [exec_requestInstr, request_replied r tag body s h]
  · have hrefuse : response = (heard s).refuse response.status := ownerAnswer_answers (heard s) r body hstatus
    rw [hrefuse]
    exact ⟨rfl, rfl⟩

end Sys2Proof.Machine
end

section
/-! PROOFS. Records written by their layouts are taken as they were written: QUEUE_BOOK and SET_FORMAT; and CANCEL_BOOK. -/

namespace Sys2Proof.Machine

open Sys2Proof.Safety

/-! ### Reading back what was written -/

@[simp] theorem byte_toNat (n : Nat) : (byte n).toNat = n % 256 := by simp [byte]

theorem u16_le16 (n : Nat) (h : n ≤ 65535) : u16 (le16 n) 0 = n := by
  simp [u16, u8, le16]
  omega

theorem u8_append_left (a b : List Byte) (o : Nat) (h : o < a.length) : u8 (a ++ b) o = u8 a o := by
  simp [u8, List.getElem?_append_left h]

theorem u8_append_right (a b : List Byte) (o : Nat) : u8 (a ++ b) (a.length + o) = u8 b o := by
  simp [u8, List.getElem?_append_right]

/-- In records of one length written one after the other, each stands at its place. -/
theorem u8_flatten {α : Type} (f : α → List Byte) (k : Nat) (hf : ∀ x, (f x).length = k) (l : List α) (i j : Nat)
    (hi : i < l.length) (hj : j < k) : u8 (l.map f).flatten (k * i + j) = u8 (f l[i]) j := by
  induction l generalizing i with
  | nil => simp at hi
  | cons x l ih =>
    rw [List.map_cons, List.flatten_cons]
    cases i with
    | zero => exact u8_append_left (f x) _ (k * 0 + j) (by rw [hf]; omega) |>.trans (by simp)
    | succ i =>
      have hplace : k * (i + 1) + j = (f x).length + (k * i + j) := by rw [hf, Nat.mul_succ]; omega
      rw [hplace, u8_append_right]
      exact ih i (by simpa using hi)

theorem flatten_length {α : Type} (f : α → List Byte) (k : Nat) (hf : ∀ x, (f x).length = k) (l : List α) :
    (l.map f).flatten.length = k * l.length := by
  induction l with
  | nil => rfl
  | cons x l ih => rw [List.map_cons, List.flatten_cons, List.length_append, ih, hf, List.length_cons, Nat.mul_succ, Nat.add_comm]

/-! ### QUEUE_BOOK -/

theorem Leaf.bytes_length (l : Leaf) : l.bytes.length = 4 := rfl

/-- The body of a QUEUE_BOOK request for a book (11_record_layouts.md). -/
def queueBody (id slot : Nat) (hanger : Hanger) (leaves : List Leaf) : List Byte :=
  le16 id ++ [byte slot, hanger.code, byte leaves.length] ++ (leaves.map Leaf.bytes).flatten

section
variable {id slot : Nat} {hanger : Hanger} {leaves : List Leaf}

theorem queueBody_length : (queueBody id slot hanger leaves).length = 5 + 4 * leaves.length := by
  simp only [queueBody, List.length_append, flatten_length Leaf.bytes 4 Leaf.bytes_length]
  rfl

theorem u8_queueBody (i j : Nat) (hi : i < leaves.length) (hj : j < 4) :
    u8 (queueBody id slot hanger leaves) (5 + (4 * i + j)) = u8 leaves[i].bytes j :=
  (u8_append_right (le16 id ++ [byte slot, hanger.code, byte leaves.length]) _ (4 * i + j)).trans
    (u8_flatten Leaf.bytes 4 Leaf.bytes_length leaves i j hi hj)

theorem queueBody_fields (hid : id ≤ 65535) (hslot : slot ≤ 7) (hcount : leaves.length ≤ 40) :
    u16 (queueBody id slot hanger leaves) 0 = id ∧ u8 (queueBody id slot hanger leaves) 2 = slot
    ∧ u8 (queueBody id slot hanger leaves) 3 = hanger.code.toNat
    ∧ u8 (queueBody id slot hanger leaves) 4 = leaves.length := by
  refine ⟨?_, ?_, ?_, ?_⟩ <;> simp [queueBody, u16, u8, le16] <;> omega

/-- The leaf entry read at a leaf's place is that leaf, and no field of it is refused. -/
theorem queueBody_leaf (i : Nat) (hi : i < leaves.length) (hlow : 40 ≤ leaves[i].caliper) (hhigh : leaves[i].caliper ≤ 3000) :
    leafAt (queueBody id slot hanger leaves) i = leaves[i] ∧ ¬ LeafRefused (queueBody id slot hanger leaves) i
    ∧ (u8 (queueBody id slot hanger leaves) (5 + 4 * i) = 3 ↔ leaves[i].role = .back) := by
  have hrole := u8_queueBody (id := id) (slot := slot) (hanger := hanger) i 0 hi (by omega)
  have hlo := u8_queueBody (id := id) (slot := slot) (hanger := hanger) i 1 hi (by omega)
  have hhi := u8_queueBody (id := id) (slot := slot) (hanger := hanger) i 2 hi (by omega)
  have hflag := u8_queueBody (id := id) (slot := slot) (hanger := hanger) i 3 hi (by omega)
  rw [Nat.add_zero] at hrole
  rw [show 5 + (4 * i + 1) = 6 + 4 * i by omega] at hlo
  rw [show 5 + (4 * i + 2) = 6 + 4 * i + 1 by omega] at hhi
  rw [show 5 + (4 * i + 3) = 8 + 4 * i by omega] at hflag
  generalize leaves[i] = leaf at hrole hlo hhi hflag hlow hhigh ⊢
  obtain ⟨role, caliper, notch⟩ := leaf
  simp only [Leaf.bytes] at hrole hlo hhi hflag hlow hhigh
  have hcaliper : u16 (queueBody id slot hanger leaves) (6 + 4 * i) = caliper := by
    rw [u16, hlo, hhi]
    simp [u8, le16]
    omega
  simp only [leafAt, LeafRefused, hcaliper, hrole, hflag]
  cases role <;> cases notch <;> simp [u8, Role.code, flagByte, le16] <;> omega

/-- The book that the written body states is the book written. -/
theorem bookAt_queueBody (hid : id ≤ 65535) (hslot : slot ≤ 7) (hcount : leaves.length ≤ 40)
    (hcaliper : ∀ l ∈ leaves, 40 ≤ l.caliper ∧ l.caliper ≤ 3000) :
    bookAt (queueBody id slot hanger leaves) = newBook id slot hanger leaves := by
  obtain ⟨h0, h2, h3, h4⟩ := queueBody_fields (hanger := hanger) hid hslot hcount
  have hhanger : hangerAt (queueBody id slot hanger leaves) = hanger := by
    rw [hangerAt, h3]
    cases hanger <;> rfl
  have hleaves : (List.range leaves.length).map (leafAt (queueBody id slot hanger leaves)) = leaves := by
    refine List.ext_getElem (by simp) fun i _ hi => ?_
    obtain ⟨hlow, hhigh⟩ := hcaliper _ (List.getElem_mem hi)
    simpa using (queueBody_leaf i hi hlow hhigh).1
  rw [bookAt, h0, h2, h4, hhanger, hleaves]

/-- Check 7 of R6 passes for the written body. -/
theorem not_fieldsRefused_queueBody (hid : id ≤ 65535) (hslot : slot ≤ 7) (hleast : 2 ≤ leaves.length)
    (hcount : leaves.length ≤ 40) (hcaliper : ∀ l ∈ leaves, 40 ≤ l.caliper ∧ l.caliper ≤ 3000) :
    ¬ FieldsRefused (queueBody id slot hanger leaves) := by
  obtain ⟨-, -, h3, h4⟩ := queueBody_fields (hanger := hanger) hid hslot hcount
  have hkind : ¬ 2 < hanger.code.toNat := by cases hanger <;> decide
  rw [FieldsRefused, h3, h4]
  rintro (h | h | h | ⟨i, hi, h⟩)
  · exact hkind h
  · omega
  · omega
  · have hi : i < leaves.length := List.mem_range.mp hi
    obtain ⟨hlow, hhigh⟩ := hcaliper _ (List.getElem_mem hi)
    exact (queueBody_leaf i hi hlow hhigh).2.1 h

end

/-- Settles O15: the checks of R6 on the written body pass one after the other, and the book it states is the book
written. -/
theorem queueBookTakesRecord : Obligations.QueueBookTakesRecord := by
  unfold Obligations.QueueBookTakesRecord
  intro s tag id slot hanger leaves f h hid1 hid hslot hroom hnew hf hleast hcount hcaliper hhook hback hpitch
  change exec (.queueBook tag (queueBody id slot hanger leaves)) s = _
  obtain ⟨h0, h2, h3, h4⟩ := queueBody_fields (hanger := hanger) hid hslot hcount
  have hlen := queueBody_length (id := id) (slot := slot) (hanger := hanger) (leaves := leaves)
  have hfind : ¬ (s.books.find? fun b => b.id == id).isSome = true := by simpa using hnew
  have hno_hook : ¬ (hanger.code.toNat = 1 ∧ f.g = 0) := by
    rintro ⟨hcode, hg⟩
    have := hhook (by cases hanger <;> simp_all [Hanger.code])
    omega
  have hno_drilled : ¬ (hanger.code.toNat = 2
      ∧ ∀ i ∈ List.range leaves.length, u8 (queueBody id slot hanger leaves) (5 + 4 * i) ≠ 3) := by
    rintro ⟨hcode, hnone⟩
    obtain ⟨l, hl, hrole⟩ := hback (by cases hanger <;> simp_all [Hanger.code])
    obtain ⟨i, hi, rfl⟩ := List.mem_iff_getElem.mp hl
    obtain ⟨hlow, hhigh⟩ := hcaliper _ hl
    exact hnone i (List.mem_range.mpr hi) ((queueBody_leaf i hi hlow hhigh).2.2.mpr hrole)
  have hno_pitch : ¬ ∃ d ∈ s.die?.toList, d.p ≠ f.p := by simpa using hpitch
  refine (request_replied .queueBook tag _ s h).trans (congrArg _ ?_)
  change (reqQueueBook (queueBody id slot hanger leaves) (heard s)).replied 0x0A tag = _
  unfold reqQueueBook
  rw [if_neg (by rw [h4, hlen]; omega), if_neg (by simpa [maxBooks] using hroom), if_neg (by rw [h0]; omega),
    if_neg (by rwa [h0, heard_book?]), if_neg (by rw [h2]; omega), heard_format?, h2, hf, heard_die?]
  simp only [judgeBook_of_fieldsTaken _ f _ (not_fieldsRefused_queueBody hid hslot hleast hcount hcaliper), h3, h4,
    if_neg hno_hook, if_neg hno_drilled, if_neg hno_pitch, bookAt_queueBody hid hslot hcount hcaliper]
  rfl

/-! ### CANCEL_BOOK -/

theorem Track.permitFor_iff_mem (t : Track) (id : Nat) :
    t.permitFor id = true ↔ ∃ p ∈ t.permit.toList, p.book = id := by
  unfold Track.permitFor
  split <;> simp [*]

/-- Settles O16: the checks stand alike on both sides, and then the states of the book. -/
theorem cancelBookJudged : Obligations.CancelBookJudged := by
  unfold Obligations.CancelBookJudged
  intro s tag body h
  refine (request_replied .cancelBook tag body s h).trans (congrArg _ ?_)
  change (reqCancelBook body (heard s)).replied 0x0B tag = _
  simp only [reqCancelBook, Response.replied_ite, Response.replied_refuse, heard_book?]
  refine if_congr Iff.rfl rfl (if_congr Iff.rfl rfl ?_)
  cases s.books.find? fun b => b.id == u16 body 0 with
  | none => rfl
  | some b =>
    dsimp only
    cases b.state with
    | queued =>
      dsimp only
      rw [Response.replied_ite, heard_track]
      exact if_congr (s.track.permitFor_iff_mem _) rfl rfl
    | feeding | fed | stacked | closing | spoiled => rfl

end Sys2Proof.Machine
end

section
/-! PROOFS. SET_FORMAT stores a format as its layout writes it. -/

namespace Sys2Proof.Machine

open Sys2Proof.Safety

/-! ### The body of a SET_FORMAT request -/

/-- The body of a SET_FORMAT request for a slot and a format. -/
def formatBody (slot : Nat) (f : Format) : List Byte := byte slot :: f.bytes

theorem gapPlace_length (gaps : List Gap) (i : Nat) : (gapPlace gaps i).length = 2 := by
  unfold gapPlace
  split <;> rfl

theorem formatBody_length (slot : Nat) (f : Format) : (formatBody slot f).length = 25 := by
  simp [formatBody, Format.bytes, gapPlace_length, le16]

/-- A 16-bit field of two consecutive bytes. -/
theorem u16_of_bytes {body : List Byte} {o n : Nat} (hlow : body[o]? = some (byte n)) (hhigh : body[o + 1]? = some (byte (n / 256)))
    (h : n ≤ 65535) : u16 body o = n := by
  simp [u16, u8, hlow, hhigh]
  omega

/-- A field of a gap place, 0 beyond the count. -/
def gapField (gaps : List Gap) (i : Nat) (field : Gap → Nat) : Byte := byte ((gaps[i]?.map field).getD 0)

theorem gapField_of_lt (gaps : List Gap) (i : Nat) (field : Gap → Nat) (hi : i < gaps.length) :
    gapField gaps i field = byte (field gaps[i]) := by
  simp [gapField, hi]

/-- The gap places as two bytes each. -/
theorem gapPlace_eq (gaps : List Gap) (i : Nat) :
    gapPlace gaps i = [gapField gaps i Gap.first, gapField gaps i Gap.count] := by
  unfold gapPlace
  split
  · next h => simp [gapField, h]
  · next h =>
    simp only [gapField, h]
    rfl

/-- The written body, byte for byte. -/
theorem formatBody_eq (slot : Nat) (f : Format) : formatBody slot f =
    [byte slot, byte f.wn, byte (f.wn / 256), byte f.wt, byte (f.wt / 256), byte f.p, byte (f.p / 256), f.mode.code,
      byte f.mode.tFixed, byte f.m, byte (f.m / 256), byte f.g, byte f.gaps.length,
      gapField f.gaps 0 Gap.first, gapField f.gaps 0 Gap.count,
      gapField f.gaps 1 Gap.first, gapField f.gaps 1 Gap.count,
      gapField f.gaps 2 Gap.first, gapField f.gaps 2 Gap.count, byte f.skewLimit,
      f.markPolicy.code, byte f.stepLimit, byte (f.stepLimit / 256), byte f.closeLimit, byte (f.closeLimit / 256)] := by
  simp only [formatBody, Format.bytes, gapPlace_eq, le16]
  rfl

/-! ### The written body read back -/

section
variable {slot : Nat} {f : Format}

theorem gapAt_formatBody {t : Nat} {gaps : List Gap} (hmode : f.mode = .fixed t gaps) (hlegal : FixedLegal f.g t gaps)
    (i : Nat) (hi : i < gaps.length) : gapAt (formatBody slot f) i = gaps[i] := by
  obtain ⟨-, ht, hlen, hcount, -, hwithin, -⟩ := hlegal
  obtain ⟨-, hmax⟩ := hcount _ (List.getElem_mem hi)
  have hin := hwithin _ (List.getElem_mem hi)
  have hgaps : f.gaps = gaps := by simp [Format.gaps, hmode]
  have hplace : u8 (formatBody slot f) (13 + 2 * i) = gaps[i].first % 256
      ∧ u8 (formatBody slot f) (14 + 2 * i) = gaps[i].count % 256 := by
    have hi3 : i < 3 := by omega
    rw [formatBody_eq, hgaps]
    interval_cases i <;> simp [u8, gapField_of_lt _ _ _ hi]
  rw [gapAt, hplace.1, hplace.2, Nat.mod_eq_of_lt (by omega), Nat.mod_eq_of_lt (by omega)]

theorem gapsAt_formatBody {t : Nat} {gaps : List Gap} (hmode : f.mode = .fixed t gaps) (hlegal : FixedLegal f.g t gaps) :
    gapsAt (formatBody slot f) = gaps := by
  have hlen : gaps.length ≤ 3 := hlegal.2.2.1
  have hgaps : f.gaps = gaps := by simp [Format.gaps, hmode]
  have hcount : u8 (formatBody slot f) 12 = gaps.length := by
    rw [formatBody_eq, hgaps]
    simp [u8]
    omega
  rw [gapsAt, hcount]
  refine List.ext_getElem (by simp) fun i _ hi => ?_
  simpa using gapAt_formatBody hmode hlegal i hi

theorem formatBody_mode (hlegal : FormatLegal f) :
    u8 (formatBody slot f) 7 ≤ 1 ∧ (formatAt (formatBody slot f)).mode = f.mode := by
  have hcode : u8 (formatBody slot f) 7 = f.mode.code.toNat := by
    rw [formatBody_eq]
    rfl
  cases hmode : f.mode with
  | auto => simp [formatAt, hcode, hmode, SlotMode.code]
  | fixed t gaps =>
    have hfixed := ((formatLegal_of_fixed f t gaps hmode).mp hlegal).2
    have ht : u8 (formatBody slot f) 8 = t := by
      rw [formatBody_eq, hmode]
      simp [u8, SlotMode.tFixed]
      omega
    simp [formatAt, hcode, hmode, SlotMode.code, ht, gapsAt_formatBody hmode hfixed]

theorem formatBody_policy : u8 (formatBody slot f) 20 ≤ 2 ∧ (formatAt (formatBody slot f)).markPolicy = f.markPolicy := by
  have hcode : u8 (formatBody slot f) 20 = f.markPolicy.code.toNat := by
    rw [formatBody_eq]
    rfl
  cases hpolicy : f.markPolicy <;> simp [formatAt, hcode, hpolicy, MarkPolicy.code]

/-- The format that the written body states is the format written. -/
theorem formatAt_formatBody (hlegal : FormatLegal f) : formatAt (formatBody slot f) = f := by
  have hmode := (formatBody_mode (slot := slot) hlegal).2
  have hpolicy := (formatBody_policy (slot := slot) (f := f)).2
  obtain ⟨hwn, hwn', hwt, hp, hp', hm, hm', hg, hskew, hstep, hstep', hclose, hclose', -⟩ := hlegal
  have hfields : u16 (formatBody slot f) 1 = f.wn ∧ u16 (formatBody slot f) 3 = f.wt ∧ u16 (formatBody slot f) 5 = f.p
      ∧ u16 (formatBody slot f) 9 = f.m ∧ u8 (formatBody slot f) 11 = f.g ∧ u8 (formatBody slot f) 19 = f.skewLimit
      ∧ u16 (formatBody slot f) 21 = f.stepLimit ∧ u16 (formatBody slot f) 23 = f.closeLimit := by
    rw [formatBody_eq]
    refine ⟨?_, ?_, ?_, ?_, ?_, ?_, ?_, ?_⟩
    case refine_5 | refine_6 => simp [u8]; omega
    all_goals exact u16_of_bytes rfl rfl (by omega)
  obtain ⟨h1, h2, h3, h4, h5, h6, h7, h8⟩ := hfields
  unfold formatAt at hmode hpolicy ⊢
  dsimp only at hmode hpolicy
  rw [h1, h2, h3, h4, h5, h6, h7, h8, hmode, hpolicy]

end

/-- Settles O20: the layout by its parts, and the written body through what SET_FORMAT judges of the format it states. -/
theorem setFormatStoresRecord : Obligations.SetFormatStoresRecord := by
  unfold Obligations.SetFormatStoresRecord
  constructor
  · intro f gaps place
    have hgaps : f.gaps = gaps := rfl
    have hplace (i : Nat) : gapPlace gaps i = place gaps[i]? := by
      unfold gapPlace
      cases gaps[i]? <;> rfl
    rw [Format.bytes, hgaps, hplace, hplace, hplace]
    cases f.mode <;> cases f.markPolicy <;> rfl
  intro s tag slot f h hslot hfree hlegal
  have hplace : u8 (formatBody slot f) 0 = slot := by
    rw [formatBody_eq]
    simp [u8]
    omega
  have hunused : ¬ ∃ b ∈ s.books, b.slot = slot := by simpa using hfree
  have hformat := formatAt_formatBody (slot := slot) hlegal
  have htaken := (recordTaken_and_consistent_iff (formatBody slot f)).mpr
    ⟨(formatBody_mode hlegal).1, formatBody_policy.1, by rwa [hformat]⟩
  refine (exec_setFormat_eq s tag (formatBody slot f) h).trans (congrArg _ ?_)
  rw [if_neg (not_not_intro (formatBody_length slot f)), hplace, if_neg (not_lt.mpr hslot), if_neg hunused,
    if_pos htaken, hformat]

end Sys2Proof.Machine
end

section
/-! PROOFS. The arrival of a sheet and its measurements (R45 to R56). -/

namespace Sys2Proof.Machine

open Sys2Proof.Safety

/-! ### The lead edge -/

/-- The arrival of a leaf in its book's record (R13). -/
theorem Book.arrive_eq (b : Book) : b.arrive =
    { b with
      arrived := b.arrived + 1
      state := if b.state = .queued ∨ b.state = .feeding then
          (if b.arrived + 1 = b.leaves.length then .fed else .feeding)
        else b.state } := by
  obtain ⟨id, slot, hanger, leaves, state, arrived, stacked, rejected, dumped, tBook, reason⟩ := b
  cases state <;> simp [Book.arrive]

theorem State.routesDrill_iff (s : State) (leaf : Leaf) :
    s.routesDrill leaf = true ↔ ∃ d ∈ s.die?.toList, d.maxLift < leaf.caliper := by
  unfold State.routesDrill
  cases s.die? with
  | none => simp
  | some d => simp [leafRoute]

/-- The sheet record of a lead edge, with its route and reason spelled out (R46). -/
theorem newSheet_routeAtCreation (s : State) (seq : Nat) (b : Book) (leaf : Leaf) :
    newSheet seq b leaf (s.routeAtCreation b leaf) =
      { seq := seq, book := b.id, leaf := b.arrived + 1, role := leaf.role
        route := if b.state = .spoiled then .reject
          else if ∃ d ∈ s.die?.toList, d.maxLift < leaf.caliper then .drill else .punch
        reason := if b.state = .spoiled then some .spoiledBook else none
        edges := none, skew := 255, caliper := none, mark := none, plan := none, notchDone := false
        holesDrilled := 0 } := by
  have hroute : s.routeAtCreation b leaf = if b.state = .spoiled then .reject
      else if ∃ d ∈ s.die?.toList, d.maxLift < leaf.caliper then .drill else .punch :=
    if_congr Iff.rfl rfl (if_congr (s.routesDrill_iff leaf) rfl rfl)
  have hreject : s.routeAtCreation b leaf = .reject ↔ b.state = .spoiled := by
    rw [hroute]
    split
    · simp [*]
    · split <;> simp [*]
  simp only [newSheet, hreject]
  rw [hroute]

/-- With every SPOILED record held a judgement of removal removes none (R19). -/
theorem State.sweep_of_swept {s : State} (h : s.Swept) : s.sweep = s := by
  have hall : ∀ b ∈ s.books, (!(s.removable b)) = true := fun b hb => by
    rw [(s.removable_eq_false b).mpr (h b hb)]
    rfl
  rw [State.sweep, List.filter_eq_self.mpr hall]
  rfl

/-- Admitting a sheet at an empty REG ends its permit and frees no record. -/
theorem State.admitSheet_eq {s : State} {p : Permit} {b : Book} (leaf : Leaf) (h : s.Swept) (hreg : s.track.reg = none)
    (hpermit : s.track.permit = some p) (hid : b.id = p.book) : s.admitSheet b leaf =
    { s with
      track := { s.track with
        permit := none, feedPermit := false, reg := some (newSheet s.arrival.nextSeq b leaf (s.routeAtCreation b leaf)) }
      arrival := { nextSeq := seqSucc s.arrival.nextSeq, window := .waiting, conversion := some s.arrival.nextSeq }
      books := s.books.map fun x => if x.id = b.id then x.arrive else x } := by
  refine State.sweep_of_swept ?_
  have harrived := h.updateBook b.id Book.arrive Book.arrive_id fun x hx => by
    rw [Book.arrive_eq] at hx
    dsimp only at hx
    split at hx
    · split at hx <;> cases hx
    · exact hx
  refine harrived.of_eq rfl fun id => ?_
  simp only [State.Holds, Track.BookAt, State.updateBook_frame, hreg, hpermit]
  rintro ((h | h | h | h) | h | h | h | h)
  · cases h
  · exact .inl (.inr (.inl h))
  · exact .inl (.inr (.inr (.inl h)))
  · exact .inl (.inr (.inr (.inr h)))
  · exact .inl (.inl (by simpa [newSheet, hid] using h))
  · exact .inr (.inr (.inl h))
  · exact .inr (.inr (.inr (.inl h)))
  · exact .inr (.inr (.inr (.inr h)))

/-- Settles O29: the two branches of the lead edge by the permit. -/
theorem leadEdgeTaken : Obligations.LeadEdgeTaken := by
  unfold Obligations.LeadEdgeTaken
  refine ⟨fun s p b leaf hhigh _ hswept hreg hpermit hb hleaf => ?_, fun s hhigh hpermit => ?_⟩
  · have hid : b.id = p.book := by simpa using List.find?_some hb
    have hs : (s.setOut []).Swept := ((spoiledRemoved_iff s).mp hswept).of_eq rfl fun _ => id
    have hadmit : (s.setOut []).leadEdge = (s.setOut []).admitSheet b leaf := by
      simp [State.leadEdge, hpermit, State.book?, hb, hleaf]
    refine (live_high s State.leadEdge hhigh).trans (congrArg _ ?_)
    rw [hadmit, State.admitSheet_eq leaf hs hreg hpermit hid, newSheet_routeAtCreation]
    simp only [Book.arrive_eq]
    rfl
  · refine (live_high s State.leadEdge hhigh).trans (congrArg _ ?_)
    simp only [State.leadEdge, State.setOut_track, hpermit]
    rfl

/-! ### The measurements -/

/-- Settles O30: each command by the cases of what it judges. -/
theorem measurementsTaken : Obligations.MeasurementsTaken := by
  unfold Obligations.MeasurementsTaken
  constructor
  · intro s lay hhigh
    refine (live_high s (fun t => t.frontLay lay) hhigh).trans (congrArg _ ?_)
    simp only [State.frontLay, State.setOut_arrival]
    cases s.arrival.window with
    | closed | waiting => rfl
    | counting n opener =>
      dsimp only
      split <;> rfl
  intro s hhigh atReg
  refine ⟨fun l r => ?_, ?_, fun leaf tag => ?_, ?_, fun r => ?_, fun r => ?_, fun um hnone => ?_, fun um seq hseq => ?_⟩
  · refine (live_high s (fun t => t.gauge true (.valid l r)) hhigh).trans (congrArg _ ?_)
    have hends : gaugeEdges (.valid l r) = if 60000 < l ∨ 60000 < r then none else some { l := l, r := r } := by
      unfold gaugeEdges
      grind
    simp only [State.gauge, if_true, hends]
    rfl
  · exact live_high s _ hhigh
  · exact live_high s _ hhigh
  · exact live_high s _ hhigh
  · exact live_high s _ hhigh
  · exact live_high s _ hhigh
  · refine (live_high s (fun t => t.caliperDone um) hhigh).trans (congrArg _ ?_)
    simp only [State.caliperDone, State.setOut_arrival, hnone]
    rfl
  · refine (live_high s (fun t => t.caliperDone um) hhigh).trans (congrArg _ ?_)
    simp only [State.caliperDone, State.setOut_arrival, hseq]
    rfl

end Sys2Proof.Machine
end

section
/-! PROOFS. The encoder pulse, the CLOSE with its notch, the OPEN and the transport handshake (R86 to R99). -/

namespace Sys2Proof.Machine

open Sys2Proof.Safety

/-! ### The encoder pulse -/

/-- Settles O34: the skew window by its cases, and the count by the points of the profile. -/
theorem encPulseCounts : Obligations.EncPulseCounts := by
  unfold Obligations.EncPulseCounts
  intro s ready hhigh w counted n
  have hw : (s.setOut []).skewPulse = w := by
    simp only [State.skewPulse, State.setOut_arrival, w]
    cases s.arrival.window with
    | closed | waiting => rfl
    | counting n opener =>
      dsimp only
      split <;> rfl
  have hcycle : w.cycle = s.cycle := by rw [← hw]; simp
  refine (live_high s (fun t => t.encPulse ready) hhigh).trans (congrArg _ ?_)
  change State.countPulse (s.setOut []).skewPulse ready = _
  rw [hw, State.countPulse, hcycle]
  cases s.cycle.hold with
  | released => rw [if_neg (not_not_intro rfl)]; rfl
  | heldClear | heldInPlace => rfl

/-! ### The stroke of a CLOSE -/

section
variable (s : State)

theorem State.pinsActive_iff_getElem (pins : List Nat) : s.pinsActive pins = true ↔
    ∀ k ∈ pins, ∃ y, (s.pins?.getD [])[k]? = some y ∧ y.state = .active := by
  simp only [State.pinsActive, List.all_eq_true, pinActive_iff]

theorem Sheet.pinsToFire_of_ready {x : Sheet} {q : PunchPlan} (hroute : x.route = .punch)
    (hplan : x.plan = some { state := .ready, body := .punched q }) : x.pinsToFire = some q.pins := by
  simp [Sheet.pinsToFire, hroute, hplan]

theorem Sheet.pinsToFire_eq_some {x : Sheet} {pins : List Nat} (h : x.pinsToFire = some pins) :
    x.route = .punch ∧ ∃ q, x.plan = some { state := .ready, body := .punched q } ∧ q.pins = pins := by
  unfold Sheet.pinsToFire at h
  split at h
  · next q hroute hplan => exact ⟨hroute, q, hplan, by simpa using h⟩
  · cases h

theorem State.closePunch_of_none (ready : Bool) (h : s.track.punch = none) : s.closePunch ready = s.nullStroke := by
  simp [State.closePunch, h]

theorem State.closePunch_of_idle {x : Sheet} (ready : Bool) (hx : s.track.punch = some x) (h : x.pinsToFire = none) :
    s.closePunch ready = s.nullStroke := by
  simp [State.closePunch, hx, h]

theorem State.closePunch_of_ready {x : Sheet} {q : PunchPlan} (ready : Bool) (hx : s.track.punch = some x)
    (hroute : x.route = .punch) (hplan : x.plan = some { state := .ready, body := .punched q }) :
    s.closePunch ready =
      if !ready then s.failAtClose x .carriageLate
      else if s.pinsActive q.pins then s.punchStroke x q.pins
      else s.failAtClose x .pinUnavailable := by
  simp [State.closePunch, hx, Sheet.pinsToFire_of_ready hroute hplan]

/-- The two failures of a stroke (R91, R92). -/
theorem State.closePunch_of_fail {x : Sheet} {q : PunchPlan} {r : Reason} {ready : Bool} (hx : s.track.punch = some x)
    (hroute : x.route = .punch) (hplan : x.plan = some { state := .ready, body := .punched q })
    (hr : (ready = false ∧ r = .carriageLate) ∨ (ready = true ∧ r = .pinUnavailable
      ∧ ∃ k ∈ q.pins, ∀ y, (s.pins?.getD [])[k]? = some y → y.state ≠ .active)) :
    s.closePunch ready = s.failAtClose x r := by
  rw [s.closePunch_of_ready ready hx hroute hplan]
  obtain ⟨hready, rfl⟩ | ⟨hready, rfl, k, hk, hbad⟩ := hr
  · rw [if_pos (by simp [hready])]
  · have hinactive : ¬ s.pinsActive q.pins = true := fun hall => by
      obtain ⟨y, hy, hstate⟩ := (s.pinsActive_iff_getElem _).mp hall k hk
      exact hbad y hy hstate
    rw [if_neg (by simp [hready]), if_neg hinactive]

end

/-- Settles O35: the stroke by the record at PUNCH, its plan, the carriage and the pins. -/
theorem strokeMade : Obligations.StrokeMade := by
  unfold Obligations.StrokeMade
  intro s ready null
  refine ⟨s.closePunch_of_none ready, fun x hx => ⟨fun hroute => ?_, fun hplan => ?_, fun q hroute hplan => ?_⟩⟩
  · refine s.closePunch_of_idle ready hx (Option.eq_none_iff_forall_ne_some.mpr fun pins hpins => ?_)
    exact hroute (Sheet.pinsToFire_eq_some hpins).1
  · refine s.closePunch_of_idle ready hx (Option.eq_none_iff_forall_ne_some.mpr fun pins hpins => ?_)
    obtain ⟨-, q, hq, -⟩ := Sheet.pinsToFire_eq_some hpins
    exact hplan q hq
  · refine ⟨fun ⟨hready, hactive⟩ => ?_, fun r hr => ?_⟩
    · rw [s.closePunch_of_ready ready hx hroute hplan, if_neg (by simp [hready]),
        if_pos ((s.pinsActive_iff_getElem _).mpr hactive)]
      simp [State.punchStroke, State.setPunch, State.setTrack, State.setCycle, State.emit, hplan]
    · rw [s.closePunch_of_fail hx hroute hplan hr, State.failAtClose, hplan]
      rfl

/-! ### The notch of a CLOSE -/

theorem Sheet.notchCentre_eq_some {x : Sheet} {c : Nat} : x.notchCentre = some c ↔
    x.route = .punch ∧ ∃ p q, x.plan = some p ∧ p.body = .punched q ∧ q.notch = some c := by
  unfold Sheet.notchCentre
  split
  · next state q hroute hplan => simp [hroute, hplan]
  · next h =>
    refine ⟨(fun hnone => by cases hnone), fun ⟨hroute, p, q, hp, hq, hc⟩ => ?_⟩
    obtain ⟨state, body⟩ := p
    obtain rfl : body = .punched q := hq
    exact absurd hp (h state q hroute)

theorem State.isSpoiled_eq_false (s : State) (id : Nat) :
    s.isSpoiled id = false ↔ ∀ b, s.book? id = some b → b.state ≠ .spoiled := by
  unfold State.isSpoiled
  cases s.book? id with
  | none => simp
  | some b => simp

/-- A notch is due (R95). -/
theorem State.notchDue_iff (s : State) : s.notchDue = true ↔
    ∃ x p q c, s.track.notch = some x ∧ x.route = .punch ∧ x.plan = some p ∧ p.body = .punched q ∧ q.notch = some c
      ∧ ∀ b, s.books.find? (fun b => b.id == x.book) = some b → b.state ≠ .spoiled := by
  unfold State.notchDue
  cases s.track.notch with
  | none => simp
  | some x =>
    simp only [Bool.and_eq_true, Option.isSome_iff_exists, Sheet.notchCentre_eq_some, Bool.not_eq_true',
      State.isSpoiled_eq_false]
    constructor
    · rintro ⟨⟨c, hroute, p, q, hp, hq, hc⟩, hbook⟩
      exact ⟨x, p, q, c, rfl, hroute, hp, hq, hc, hbook⟩
    · rintro ⟨y, p, q, c, hy, hroute, hp, hq, hc, hbook⟩
      obtain rfl := Option.some.inj hy
      exact ⟨⟨c, hroute, p, q, hp, hq, hc⟩, hbook⟩

/-- A book that is not SPOILED stands through a judgement of removal, and no other takes its place. -/
theorem State.isSpoiled_sweep {s : State} {id : Nat} (h : s.isSpoiled id = false) : s.sweep.isSpoiled id = false := by
  rw [State.isSpoiled_eq_false] at h ⊢
  intro b hb
  cases hfirst : s.book? id with
  | none =>
    have hmem := (s.mem_sweep b).mp (State.mem_of_book? hb)
    have hall := List.find?_eq_none.mp hfirst b hmem.1
    exact absurd (State.book?_id hb) (by simpa using hall)
  | some b' =>
    have hkept : s.sweep.book? id = some b' := by
      have hunspoiled := h b' hfirst
      obtain ⟨hid, before, after, hsplit, hbefore⟩ := List.find?_eq_some_iff_append.mp hfirst
      rw [State.book?, State.sweep, State.setBooks_books, hsplit, List.filter_append, List.find?_append,
        List.find?_eq_none.mpr fun c hc => by simpa using hbefore c (List.mem_filter.mp hc).1, Option.none_or,
        List.filter_cons_of_pos (by simp [State.removable, hunspoiled])]
      exact List.find?_cons_of_pos hid
    rw [hkept] at hb
    exact Option.some.inj hb ▸ h b' hfirst

/-- Another book's record is not touched. -/
theorem State.book?_updateBook_of_ne (s : State) {id id' : Nat} (f : Book → Book) (hf : ∀ b, (f b).id = b.id)
    (hne : id' ≠ id) : (s.updateBook id f).book? id' = s.book? id' := by
  rw [State.book?, State.updateBook_books, changeBook, List.find?_map]
  have hsame : ((fun b : Book => b.id == id') ∘ fun b => if b.id = id then f b else b) = fun b => b.id == id' := by
    funext b
    simp only [Function.comp_apply]
    split <;> simp [hf]
  rw [hsame]
  cases hb : s.books.find? fun b => b.id == id' with
  | none => simp [State.book?, hb]
  | some b =>
    have hid : b.id = id' := by simpa using List.find?_some hb
    simp [State.book?, hb, hid, hne]

/-- A spoil spoils no other book (R15). -/
theorem State.isSpoiled_spoil_of_ne {s : State} {id id' : Nat} (h : s.isSpoiled id' = false) (hne : id' ≠ id) (reason : Reason)
    (q v : Nat) : (s.spoil id reason q v).isSpoiled id' = false := by
  have hframe {t u : State} (hbooks : u.books = t.books) (ht : t.isSpoiled id' = false) : u.isSpoiled id' = false := by
    simpa [State.isSpoiled, State.book?, hbooks] using ht
  have hupdate {t : State} (f : Book → Book) (hf : ∀ b, (f b).id = b.id) (ht : t.isSpoiled id' = false) :
      (t.updateBook id f).isSpoiled id' = false := by
    simpa [State.isSpoiled, State.book?_updateBook_of_ne t f hf hne] using ht
  obtain ⟨-, he⟩ | ⟨b, -, -, he⟩ := s.spoil_cases id reason q v
  · rwa [he]
  · rw [he]
    refine State.isSpoiled_sweep ?_
    have htray {t : State} (ht : t.isSpoiled id' = false) : (t.traySpoil id).isSpoiled id' = false := by
      unfold State.traySpoil
      split
      · exact hframe rfl (hupdate _ (fun _ => rfl) ht)
      · exact ht
    have hdrop {t : State} (ht : t.isSpoiled id' = false) : t.dropCut.isSpoiled id' = false :=
      hframe (by simp [State.dropCut]) (State.isSpoiled_sweep (hframe (u := t.setWire { t.wire with feeder := .idle }) rfl ht))
    have hwire {t : State} (ht : t.isSpoiled id' = false) : (t.wireSpoil id).isSpoiled id' = false := by
      unfold State.wireSpoil
      split
      · split
        · exact hdrop ht
        · exact ht
      · split
        · exact hdrop ht
        · exact ht
      · exact ht
    exact hwire (htray (hframe (t := s.updateBook id (Book.spoil reason)) (by simp) (hupdate _ (fun _ => rfl) h)))

/-- The sheet at NOTCH of another book stays as it is through a spoil. -/
theorem State.spoil_notch_of_ne {s : State} {id : Nat} {y : Sheet} (hy : s.track.notch = some y) (hne : y.book ≠ id)
    (reason : Reason) (q v : Nat) : (s.spoil id reason q v).track.notch = some y := by
  have hcondemned : (s.track.condemn id).notch = some y := by
    simp [Track.condemn, hy, Sheet.condemnFor, hne]
  obtain h | h | ⟨-, h⟩ := s.spoil_track id reason q v <;> rw [h]
  · exact hy
  · exact hcondemned
  · exact hcondemned

/-- Settles O36: the notch by when it is due; with a failure at PUNCH another book's sheet at NOTCH is left as it is. -/
theorem notchFired : Obligations.NotchFired := by
  unfold Obligations.NotchFired
  intro s ready due fired t
  have hdue (u : State) : u.notchDue = true ↔ due u := u.notchDue_iff
  have hafter (h : due t) : s.closeEvent ready = fired t := by
    rw [State.closeEvent, if_pos ((hdue _).mpr h)]
    rfl
  refine ⟨hafter, fun hs ht => ?_, fun hs ht => ?_, fun x y q hx hroute hplan hy hs hready hactive => ?_,
    fun x y q hx hroute hplan hy hs hne hfail => ?_⟩
  · rw [State.closeEvent, if_neg (mt (hdue _).mp ht), if_neg (mt (hdue _).mp hs)]
  · rw [State.closeEvent, if_neg (mt (hdue _).mp ht), if_pos ((hdue _).mpr hs)]
    dsimp only
    split
    · exact .inl rfl
    · exact .inr rfl
  · have hstroke : t = _ := ((strokeMade s ready).2 x hx).2.2 q hroute hplan |>.1 ⟨hready, hactive⟩
    have hdue' : due t := by
      rw [hstroke]
      exact hs
    rw [hafter hdue', hstroke]
    simp [fired, hy]
  · obtain ⟨z, p, q', c, hz, hzroute, hp, hq', hc, hbook⟩ := hs
    obtain rfl : z = y := Option.some.inj (hz.symm.trans hy)
    have hreason : ∃ r, (ready = false ∧ r = Reason.carriageLate)
        ∨ (ready = true ∧ r = Reason.pinUnavailable
          ∧ ∃ k ∈ q.pins, ∀ y, (s.pins?.getD [])[k]? = some y → y.state ≠ .active) := by
      cases hr : ready with
      | false => exact ⟨_, .inl ⟨rfl, rfl⟩⟩
      | true => exact ⟨_, .inr ⟨rfl, rfl, hfail.resolve_left (by simp [hr])⟩⟩
    obtain ⟨r, hr⟩ := hreason
    have hstroke : t = s.failAtClose x r := s.closePunch_of_fail hx hroute hplan hr
    set u := s.nullStroke.setPunch { x with
      route := .reject, reason := some r, plan := x.plan.map fun p => { p with state := .discarded } }
    have hspoil : t = u.spoil x.book r x.seq x.leaf := hstroke
    have hnotch : t.track.notch = some z := by
      rw [hspoil]
      exact State.spoil_notch_of_ne (s := u) hy hne.symm _ _ _
    have hunspoiled : t.isSpoiled z.book = false := by
      rw [hspoil]
      exact State.isSpoiled_spoil_of_ne (s := u) ((s.isSpoiled_eq_false _).mpr hbook) hne.symm _ _ _
    have hdue' : due t := ⟨z, p, q', c, hnotch, hzroute, hp, hq', hc, (t.isSpoiled_eq_false _).mp hunspoiled⟩
    rw [hafter hdue']
    exact ⟨rfl, by simp [fired, hnotch]⟩

end Sys2Proof.Machine
end

section
/-! PROOFS. The OPEN counts strokes (R96, R97), the transport handshake (R89, R98, R99), the diverter (R67 to R70) and the
plan point (R26, R40, R43). -/

namespace Sys2Proof.Machine

open Sys2Proof.Safety

/-! ### The strokes counted at an OPEN -/

theorem entered_nil (n : Notices) : entered n [] = n := by simp [entered]

theorem entered_append (n : Notices) (l l' : List Event) : entered (entered n l) l' = entered n (l ++ l') := by
  cases l <;> cases l' <;> simp [entered]

/-- PIN_WORN of one pin (R97). -/
def wornEvent (k : Nat) : Event := { kind := .pinWorn, reason := none, book := 0, seq := 0, value := k }

theorem foldl_pushWorn (l : List Nat) : ∀ s : State,
    l.foldl State.pushWorn s = { s with notices := entered s.notices (l.map wornEvent) } := by
  induction l with
  | nil => exact fun s => by rw [List.map_nil, entered_nil]; rfl
  | cons k l ih =>
    intro s
    rw [List.foldl_cons, ih, State.pushWorn, State.push_eq_entered]
    dsimp only
    rw [entered_append]
    rfl

/-- The pins that are worn now, numbered from `k` on (R97). -/
theorem wornNow_eq (wornAt : Nat) (stroke : List Nat) (m : List Pin) : ∀ k, wornNow wornAt stroke k m =
    ((List.range m.length).filter fun i => stroke.contains (k + i) && m[i]?.any (Pin.wearsOut wornAt)).map (k + ·) := by
  induction m with
  | nil => exact fun k => rfl
  | cons p m ih =>
    intro k
    rw [wornNow, List.length_cons, List.range_succ_eq_map, List.filter_cons, List.filter_map]
    have htail : ((List.range m.length).filter fun i =>
        stroke.contains (k + 1 + i) && m[i]?.any (Pin.wearsOut wornAt)).map (k + 1 + ·) =
        (((List.range m.length).filter ((fun i => stroke.contains (k + i) && (p :: m)[i]?.any (Pin.wearsOut wornAt)) ∘
          Nat.succ)).map Nat.succ).map (k + ·) := by
      rw [List.map_map]
      have hcomm (i : Nat) : k + 1 + i = k + (i + 1) := by omega
      simp [Function.comp_def, hcomm]
    rw [ih (k + 1), htail]
    simp only [Nat.add_zero, List.getElem?_cons_zero, Option.any_some]
    split
    · rw [List.map_cons]
      rfl
    · rfl

theorem countStrokes_getElem? (wornAt : Nat) (stroke : List Nat) (m : List Pin) : ∀ k i,
    (countStrokes wornAt stroke k m)[i]? =
      m[i]?.map fun p => if stroke.contains (k + i) then p.countStroke wornAt else p := by
  induction m with
  | nil => exact fun k i => by simp [countStrokes]
  | cons p m ih =>
    intro k i
    rw [countStrokes]
    cases i with
    | zero => simp
    | succ i =>
      have hcomm : k + 1 + i = k + (i + 1) := by omega
      simpa [hcomm] using ih (k + 1) i

theorem countStrokes_length (wornAt : Nat) (stroke : List Nat) (m : List Pin) : ∀ k,
    (countStrokes wornAt stroke k m).length = m.length := by
  induction m with
  | nil => exact fun _ => rfl
  | cons p m ih => exact fun k => congrArg (· + 1) (ih (k + 1))

/-- The strokes counted under a mounted die (R96, R97). -/
theorem State.countStroke_of_mounted (s : State) {d : DieRecord} {m : List Pin} (h : s.die.iface = .mounted d m) :
    s.countStroke =
      { s with
        cycle := { s.cycle with
          totalStrokes := if s.cycle.stroke = [] then s.cycle.totalStrokes else bump32 s.cycle.totalStrokes }
        die := { s.die with iface := .mounted d (countStrokes d.wornAt s.cycle.stroke 0 m) }
        notices := entered s.notices ((wornNow d.wornAt s.cycle.stroke 0 m).map wornEvent) } := by
  unfold State.countStroke
  by_cases hstroke : s.cycle.stroke = []
  · simp only [hstroke, List.isEmpty_nil, if_true, h]
    rw [foldl_pushWorn]
    simp only [State.setPins, State.setDie, ← hstroke]
  · have hnonempty : s.cycle.stroke.isEmpty = false := by simpa using hstroke
    simp only [hnonempty, Bool.false_eq_true, if_false, if_neg hstroke, State.setCycle_die, h]
    rw [foldl_pushWorn]
    rfl

/-- Settles O37: the pins by `countStrokes`, and the worn ones by `wornNow`. -/
theorem openCountsStrokes : Obligations.OpenCountsStrokes := by
  unfold Obligations.OpenCountsStrokes
  refine ⟨fun _ => rfl, fun s d m h => ?_⟩
  intro up worn
  refine ⟨countStrokes d.wornAt s.cycle.stroke 0 m, ?_, ?_, fun k x hx => ?_⟩
  · have hworn : wornNow d.wornAt s.cycle.stroke 0 m = (List.range m.length).filter worn := by
      rw [wornNow_eq]
      simp only [Nat.zero_add, List.map_id']
      rfl
    rw [s.countStroke_of_mounted h, hworn]
    rfl
  · exact countStrokes_length _ _ _ _
  · rw [countStrokes_getElem?, hx, Option.map_some, Nat.zero_add]
    by_cases hk : k ∈ s.cycle.stroke
    · have hcontains : s.cycle.stroke.contains k = true := by simpa using hk
      have hwears : worn k = x.wearsOut d.wornAt := by
        simp only [worn, hcontains, hx, Bool.true_and, Option.any_some]
        rfl
      rw [if_pos hcontains, if_pos hk, hwears]
      rfl
    · rw [if_neg (by simpa using hk), if_neg hk]

/-! ### The transport handshake -/

/-- Settles O38: the handshake by the hold, the outstanding advance and the PENDING boundary. -/
theorem transportHandshake : Obligations.TransportHandshake := by
  unfold Obligations.TransportHandshake
  refine ⟨fun s hhigh => ?_, fun s hout => ?_, fun s hout => ?_⟩
  · refine (live_high s State.advanceDone hhigh).trans (congrArg _ ?_)
    rfl
  · simp [State.cycleStart, hout]
  · intro done
    have hdone : s.setCycle { s.cycle.activate with stroke := [] } = done := by
      simp only [done, Cycle.activate]
      split <;> simp [*, State.setCycle]
    have hline : done.line = s.line := rfl
    have hstart : s.cycleStart = if s.line.boundary then done.enterDraining else done := by
      simp only [State.cycleStart, hout, Bool.false_eq_true, if_false, State.completeCycle, hdone, hline]
    exact ⟨fun hb => by rw [hstart, if_neg (by simp [hb])], fun hb => by rw [hstart, if_pos hb]⟩

/-! ### The diverter -/

/-- Settles O33: the levels by the setting, and the departure by the route. -/
theorem diverterByRoute : Obligations.DiverterByRoute := by
  unfold Obligations.DiverterByRoute
  refine ⟨fun s => ?_, fun s => ⟨fun hnone => State.divert_of_none hnone, fun x hx =>
    ⟨fun hroute => State.divert_of_punch hx hroute, fun q hu rest hroute hplan hholes => ?_, fun hroute => ?_⟩⟩⟩
  · unfold State.divertA State.divertB
    cases s.track.diverter <;> decide
  · rw [State.divert_of_drill hx hroute]
    have hsheet : x.holes = hu :: rest := by simp [Sheet.holes, hplan, hholes]
    simp [State.departDrill, State.takeBoard, State.sendHole, State.setTrack, State.setDrill, State.emit, hsheet, hholes, State.stepLimitOf,
      State.book?, State.format?]
  · rw [State.divert_of_reject hx hroute]
    simp only [State.departBin, State.push_eq_entered]
    rfl

/-! ### The plan point -/

/-- Settles O28: the inputs as they are looked up, and what each outcome of the plan writes. -/
theorem planPointWrites : Obligations.PlanPointWrites := by
  unfold Obligations.PlanPointWrites
  intro s x
  refine ⟨fun b d m f leaf n hb hd hf hleaf hn => ?_, fun hreject => if_pos hreject, fun i hroute hi =>
    ⟨fun q hq => ?_, fun q hq => ?_, fun r hr => ?_⟩⟩
  · have hleaf' : b.leaves[x.leaf - 1]? = some leaf := by rw [hleaf]; exact hn
    simp only [State.planInput, State.book?, hb, hd, State.format?, hf, hleaf']
  · simp only [State.planPoint, if_neg hroute, hi, hq]
    rfl
  · simp only [State.planPoint, if_neg hroute, hi, hq]
    rfl
  · simp only [State.planPoint, if_neg hroute, hi, hr]
    rfl

end Sys2Proof.Machine
end

section
/-! PROOFS. An ADVANCE moves every record one place (R66), and when it leaves a permit standing (R64). -/

namespace Sys2Proof.Machine

open Sys2Proof.Safety

/-! ### The pulse at the ADVANCE point -/

/-- The state in which the pulse at a profile point raises its event (R50, R86). -/
def State.counted (s : State) : State :=
  (s.setOut []).skewPulse.setCycle { s.cycle with count := s.cycle.count + 1 }

/-- A pulse that brings the count to the ADVANCE point raises the ADVANCE (R86). -/
theorem exec_encPulse_advance (s : State) (ready : Bool) (hhigh : s.resetLow = false) (hhold : s.cycle.hold = .released)
    (hvalid : s.cycle.active.valid = true) (hcount : s.cycle.count + 1 = s.cycle.active.pa) :
    exec (.encPulse ready) s = .next s.counted.advanceEvent := by
  obtain ⟨-, -, -, hpc, hpo, hlc⟩ := (Profile.valid_iff _).mp hvalid
  have hcycle : (s.setOut []).skewPulse.cycle = s.cycle := by simp
  refine (live_high s (fun t => t.encPulse ready) hhigh).trans (congrArg _ ?_)
  rw [State.encPulse, State.countPulse, hcycle, hhold]
  dsimp only
  rw [if_neg (by omega), if_neg (by omega), if_neg (by omega), if_pos hcount]
  rfl

theorem State.counted_places (s : State) : s.counted.track.punch = s.track.punch ∧ s.counted.track.notch = s.track.notch
    ∧ s.counted.track.lane = s.track.lane ∧ s.counted.track.reg.map (·.seq) = s.track.reg.map (·.seq) := by
  change (s.setOut []).skewPulse.track.punch = _ ∧ (s.setOut []).skewPulse.track.notch = _
    ∧ (s.setOut []).skewPulse.track.lane = _ ∧ (s.setOut []).skewPulse.track.reg.map _ = _
  unfold State.skewPulse
  split
  · split
    · exact ⟨rfl, rfl, rfl, rfl⟩
    · refine ⟨rfl, rfl, rfl, ?_⟩
      simp [State.closeSkew, State.updateReg, Function.comp_def]
  · exact ⟨rfl, rfl, rfl, rfl⟩

/-! ### The steps -/

section
variable {s : State} {x : Sheet}

theorem State.moveToNotch_of_centre {c : Nat} (hx : s.track.punch = some x) (hc : x.notchCentre = some c) : s.moveToNotch =
    ((s.setTrack { s.track with punch := none, notch := some x }).setSetpoints
      { s.setpoints with notch := some c }).emit (.notchCentre c) := by
  simp [State.moveToNotch, hx, hc]

theorem State.moveToNotch_of_no_centre (hx : s.track.punch = some x) (hc : x.notchCentre = none) :
    s.moveToNotch = s.setTrack { s.track with punch := none, notch := some x } := by
  simp [State.moveToNotch, hx, hc]

theorem Sheet.notchCentre_eq_none (h : x.route = .punch → ∀ p q, x.plan = some p → p.body = .punched q → q.notch = none) :
    x.notchCentre = none := by
  refine Option.eq_none_iff_forall_ne_some.mpr fun c hc => ?_
  obtain ⟨hroute, p, q, hp, hq, hcentre⟩ := Sheet.notchCentre_eq_some.mp hc
  rw [h hroute p q hp hq] at hcentre
  cases hcentre

/-- The plan point sends no notch centre (R40). -/
theorem State.planPoint_notch (s : State) (x : Sheet) : (s.planPoint x).setpoints.notch = s.setpoints.notch := by
  unfold State.planPoint
  split
  · rfl
  split
  · rfl
  split
  · next body _ => cases body <;> simp [State.planMade]
  · simp

theorem State.moveToPunch_notch (s : State) : s.moveToPunch.setpoints.notch = s.setpoints.notch := by
  unfold State.moveToPunch
  split
  · rfl
  · exact State.planPoint_notch _ _

/-- The plan point leaves the LANE alone with no suspended board to free. -/
theorem State.planPoint_lane (hmode : ∀ o, s.drill.mode ≠ .suspended o) : (s.planPoint x).track.lane = s.track.lane := by
  unfold State.planPoint
  split
  · rfl
  split
  · rfl
  split
  · next body _ => cases body <;> rfl
  · exact State.spoil_lane (s.setPunch _) hmode _ _ _ _

theorem State.moveToPunch_lane (hmode : ∀ o, s.drill.mode ≠ .suspended o) : s.moveToPunch.track.lane = s.track.lane := by
  unfold State.moveToPunch
  split
  · rfl
  · exact State.planPoint_lane hmode

theorem State.sendHole_mode (s : State) : s.sendHole.drill.mode = .drilling := by
  unfold State.sendHole
  split <;> rfl

end

/-- ADVANCE_OUT is pulsed, and the outputs of the steps follow (R98). -/
theorem State.advanceEvent_emits (s : State) (hhold : s.cycle.hold = .released) :
    ∃ l, s.advanceEvent.out = s.out ++ [.advanceOut] ++ l := by
  set u := (s.setCycle { s.cycle with outstanding := true }).emit .advanceOut
  have hplannable := plannable_moveToNotch _ (plannable_divert _ (plannable_lapsePermit u (.inl hhold)))
  have hmoves : Moves .cutting u s.advanceEvent :=
    .trans (.trans (.trans (.trans (moves_lapsePermit _) (moves_divert _)) (moves_moveToNotch _))
      (moves_moveToPunch _ (by decide) hplannable)) (moves_admission _)
  obtain ⟨l, hl, -⟩ := hmoves.emits
  exact ⟨l, hl⟩

/-- The state of an ADVANCE before its fourth step (R66). -/
def State.advanceNotched (s : State) : State :=
  ((s.setCycle { s.cycle with outstanding := true }).emit .advanceOut).lapsePermit.divert.moveToNotch

theorem State.advanceEvent_eq (s : State) : s.advanceEvent = s.advanceNotched.moveToPunch.admission := rfl

theorem State.advanceNotched_track (s : State) : s.advanceNotched.track =
    { s.track with
      permit := none, feedPermit := s.track.permit.isNone && s.track.feedPermit, punch := none, notch := s.track.punch
      diverter := (s.track.notch.map (·.route.diverter)).getD .bin
      lane := s.track.lane ++ (s.track.notch.map (·.laneEntries)).getD [] } := by
  simp [State.advanceNotched, State.moveToNotch_track, State.divert_track, State.lapsePermit_track]

/-- Each record has moved one place (R66). -/
theorem State.advanceEvent_samePlaces (s : State) : ∃ p f, Track.SamePlaces
    { s.track with
      permit := p, feedPermit := f, reg := none, punch := s.track.reg, notch := s.track.punch
      diverter := (s.track.notch.map (·.route.diverter)).getD .bin
      lane := s.track.lane ++ (s.track.notch.map (·.laneEntries)).getD [] } s.advanceEvent.track := by
  obtain ⟨p, f, hadmission⟩ := s.advanceNotched.moveToPunch.admission_track
  have hplaces := s.advanceNotched.moveToPunch_samePlaces
  rw [State.advanceNotched_track] at hplaces
  obtain ⟨hreg, hpunch, hnotch, hlane, -, hdiverter⟩ := hplaces
  refine ⟨p, f, ?_⟩
  rw [State.advanceEvent_eq, hadmission]
  exact ⟨hreg, by simpa using hpunch, hnotch, hlane, rfl, hdiverter⟩

theorem State.advanceEvent_drill_lane {s : State} {x : Sheet} (hx : s.track.notch = some x) (hroute : x.route = .drill) :
    s.advanceEvent.track.lane = s.track.lane ++ [{ sheet := x, away := true }] := by
  have hmode : s.advanceNotched.drill.mode = .drilling := by
    set u := ((s.setCycle { s.cycle with outstanding := true }).emit .advanceOut).lapsePermit with hu
    have hux : u.track.notch = some x := by simp [hu, State.lapsePermit_track, hx]
    have hdivert : s.advanceNotched.drill = (u.departDrill x).drill := by
      rw [← State.divert_of_drill hux hroute]
      simp [State.advanceNotched, hu]
    rw [hdivert]
    exact State.sendHole_mode _
  obtain ⟨p, f, hadmission⟩ := s.advanceNotched.moveToPunch.admission_track
  rw [State.advanceEvent_eq, hadmission]
  refine (State.moveToPunch_lane (by simp [hmode])).trans ?_
  rw [State.advanceNotched_track]
  simp [hx, Sheet.laneEntries, hroute]

/-- The window of the sheet that goes to PUNCH closes (R51). -/
theorem State.advanceEvent_window {s : State} (hreg : s.track.reg ≠ none) : s.advanceEvent.arrival.window = .closed := by
  obtain ⟨x, hx⟩ := Option.ne_none_iff_exists'.mp hreg
  have hnotched : s.advanceNotched.track.reg = some x := by rw [State.advanceNotched_track]; exact hx
  rw [State.advanceEvent_eq, State.moveToPunch_of_some hnotched]
  simp

theorem State.advanceEvent_notch (s : State) : s.advanceEvent.setpoints.notch = s.advanceNotched.setpoints.notch := by
  rw [State.advanceEvent_eq]
  simpa using s.advanceNotched.moveToPunch_notch

/-- The notch centre of the PUNCH record is sent and held (R95). -/
theorem State.advanceEvent_of_centre {s : State} {x : Sheet} {c : Nat} (hhold : s.cycle.hold = .released)
    (hx : s.track.punch = some x) (hc : x.notchCentre = some c) :
    s.advanceEvent.setpoints.notch = some c ∧ .notchCentre c ∈ s.advanceEvent.out := by
  set u := (s.setCycle { s.cycle with outstanding := true }).emit .advanceOut
  have hux : u.lapsePermit.divert.track.punch = some x := by
    simpa [State.divert_track, State.lapsePermit_track, u] using hx
  have hnotched : s.advanceNotched = _ := State.moveToNotch_of_centre hux hc
  have hplannable : Plannable s.advanceNotched :=
    plannable_moveToNotch _ (plannable_divert _ (plannable_lapsePermit u (.inl hhold)))
  have hmoves : Moves .cutting s.advanceNotched s.advanceEvent :=
    .trans (moves_moveToPunch _ (by decide) hplannable) (moves_admission _)
  obtain ⟨l, hl, -⟩ := hmoves.emits
  rw [State.advanceEvent_notch, hl, hnotched]
  exact ⟨rfl, by simp [State.emit]⟩

theorem State.advanceEvent_of_no_centre {s : State} (h : ∀ x, s.track.punch = some x → x.notchCentre = none) :
    s.advanceEvent.setpoints.notch = s.setpoints.notch := by
  set u := (s.setCycle { s.cycle with outstanding := true }).emit .advanceOut
  have hpunch : u.lapsePermit.divert.track.punch = s.track.punch := by
    simp [State.divert_track, State.lapsePermit_track, u]
  have hset : u.lapsePermit.divert.setpoints = s.setpoints := by simp [u]
  rw [State.advanceEvent_notch, ← hset]
  cases hx : s.track.punch with
  | none => exact congrArg (·.setpoints.notch) (State.moveToNotch_of_none (hpunch.trans hx))
  | some x => exact congrArg (·.setpoints.notch) (State.moveToNotch_of_no_centre (hpunch.trans hx) (h x hx))

/-- Settles O31: the steps as they are defined, and together by the places they leave the records in. -/
theorem advanceMovesOnePlace : Obligations.AdvanceMovesOnePlace := by
  unfold Obligations.AdvanceMovesOnePlace
  refine ⟨fun s => rfl, fun s => ⟨State.lapsePermit_of_none, State.lapsePermit_of_some⟩,
    fun s => ⟨State.moveToNotch_of_none, fun x hx => ⟨fun p q c hroute hp hq hc => ?_, fun hnone => ?_⟩⟩,
    fun s => ⟨State.moveToPunch_of_none, fun x hx => State.moveToPunch_of_some hx⟩,
    fun s ready hhigh hhold hvalid hcount => ⟨s.counted.advanceEvent, ?_⟩⟩
  · exact State.moveToNotch_of_centre hx (Sheet.notchCentre_eq_some.mpr ⟨hroute, p, q, hp, hq, hc⟩)
  · exact State.moveToNotch_of_no_centre hx (Sheet.notchCentre_eq_none hnone)
  obtain ⟨hpunch, hnotch, hlane, hreg⟩ := s.counted_places
  obtain ⟨p, f, hreg', hpunch', hnotch', hlane', -, hdiverter'⟩ := s.counted.advanceEvent_samePlaces
  simp only [hnotch, hlane, hpunch] at hreg' hpunch' hnotch' hlane' hdiverter'
  have hset : s.counted.setpoints = s.setpoints := by simp [State.counted]
  obtain ⟨l, hout⟩ := s.counted.advanceEvent_emits hhold
  refine ⟨exec_encPulse_advance s ready hhigh hhold hvalid hcount, by simpa using hreg', hpunch'.trans hreg, hnotch',
    by simp [hout], fun hsome => ?_, fun x p q c hx hroute hp hq hc => ?_, fun hnone => ?_, fun hnone => ?_,
    fun x hx => ⟨fun hroute => ?_, fun hroute => ?_, fun hroute => ?_⟩⟩
  · refine State.advanceEvent_window fun hnone => hsome ?_
    simpa [hnone] using hreg.symm
  · exact State.advanceEvent_of_centre hhold (hpunch.trans hx) (Sheet.notchCentre_eq_some.mpr ⟨hroute, p, q, hp, hq, hc⟩)
  · rw [← hset]
    exact State.advanceEvent_of_no_centre fun x hx =>
      Sheet.notchCentre_eq_none fun hroute p q => hnone x p q (hpunch.symm.trans hx) hroute
  · exact ⟨by simpa [hnone] using hdiverter', by simpa [hnone] using hlane'⟩
  · exact ⟨by simpa [hx, hroute, Route.diverter] using hdiverter', by simpa [hx, Sheet.laneEntries, hroute] using hlane'⟩
  · exact ⟨by simpa [hx, hroute, Route.diverter] using hdiverter', by simpa [hx, Sheet.laneEntries, hroute] using hlane'⟩
  · exact ⟨by simpa [hx, hroute, Route.diverter] using hdiverter', hlane ▸ State.advanceEvent_drill_lane (hnotch.trans hx) hroute⟩

/-! ### Admission -/

/-- The conditions of R64 for a leaf. -/
theorem State.admits_iff (w : State) (leaf : Leaf) : w.admits (w.routesDrill leaf) = true ↔
    w.line.mode = .running ∧ w.track.reg = none
    ∧ w.track.lane.length + w.track.punch.toList.length + w.track.notch.toList.length + 1 ≤ 6
    ∧ ((∃ d, w.die? = some d ∧ d.maxLift < leaf.caliper) →
        (∀ e ∈ w.track.lane, e.away = false) ∧ (∀ x, w.track.punch = some x → x.route ≠ .drill)
        ∧ (∀ x, w.track.notch = some x → x.route ≠ .drill)) := by
  have hroutes : (∃ d, w.die? = some d ∧ d.maxLift < leaf.caliper) ↔ w.routesDrill leaf = true := by
    simp [w.routesDrill_iff leaf]
  have hempty : w.track.stationEmpty = true ↔ ∀ e ∈ w.track.lane, e.away = false := by
    simp [Track.stationEmpty]
  have hbound : w.track.drillBound = false ↔
      (∀ x, w.track.punch = some x → x.route ≠ .drill) ∧ (∀ x, w.track.notch = some x → x.route ≠ .drill) := by
    cases hp : w.track.punch <;> cases hn : w.track.notch <;> simp [Track.drillBound, hp, hn]
  rw [hroutes, State.admits]
  simp only [Bool.and_eq_true, beq_iff_eq, Option.isNone_iff_eq_none, decide_eq_true_eq, Bool.or_eq_true,
    Bool.not_eq_true', hempty, hbound, and_assoc]
  rw [← Bool.not_eq_true, ← imp_iff_not_or]

/-- When an admission leaves a permit standing (R64). -/
theorem State.admission_permit (w : State) (hnone : w.track.permit = none) (p : Permit) :
    w.admission.track.permit = some p ↔
      w.line.mode = .running ∧ w.track.reg = none
      ∧ w.track.lane.length + w.track.punch.toList.length + w.track.notch.toList.length + 1 ≤ 6
      ∧ ∃ b leaf, w.books.find? (fun b => b.state == .queued || b.state == .feeding) = some b
        ∧ b.leaves[b.arrived]? = some leaf ∧ p = { book := b.id, leaf := b.arrived + 1 }
        ∧ ((∃ d, w.die? = some d ∧ d.maxLift < leaf.caliper) →
            (∀ e ∈ w.track.lane, e.away = false) ∧ (∀ x, w.track.punch = some x → x.route ≠ .drill)
            ∧ (∀ x, w.track.notch = some x → x.route ≠ .drill)) := by
  unfold State.admission State.expectedLeaf
  cases hfind : w.books.find? fun b => b.state == .queued || b.state == .feeding with
  | none => simp [hnone]
  | some b =>
    cases hleaf : b.leaves[b.arrived]? with
    | none => simp [hnone, hleaf]
    | some leaf =>
      simp only [Option.map_some, Option.some.injEq, hleaf]
      have hadmits := w.admits_iff leaf
      split
      · next h =>
        obtain ⟨hline, hreg, hfree, hboard⟩ := hadmits.mp h
        constructor
        · intro hp
          exact ⟨hline, hreg, hfree, b, leaf, rfl, hleaf, (Option.some.inj hp).symm, hboard⟩
        · rintro ⟨-, -, -, _, _, rfl, -, rfl, -⟩
          rfl
      · next h =>
        rw [hnone]
        refine ⟨(fun hp => by cases hp), ?_⟩
        rintro ⟨hline, hreg, hfree, b', leaf', rfl, hleaf', -, hboard⟩
        refine absurd ?_ h
        obtain rfl := Option.some.inj (hleaf.symm.trans hleaf')
        exact hadmits.mpr ⟨hline, hreg, hfree, hboard⟩

theorem State.admission_feedPermit (w : State) (hnone : w.track.permit = none) (h : w.admission.track.permit ≠ none) :
    w.admission.track.feedPermit = true := by
  unfold State.admission at h ⊢
  split at h
  · exact absurd hnone h
  split at h
  · next hadmits =>
    rw [if_pos hadmits]
    rfl
  · exact absurd hnone h

/-- Settles O32: no permit stands before the admission, which then decides. -/
theorem permitIssued : Obligations.PermitIssued := by
  unfold Obligations.PermitIssued
  intro s t ready p hhigh hhold hvalid hcount hexec
  obtain rfl : s.counted.advanceEvent = t := by
    rw [exec_encPulse_advance s ready hhigh hhold hvalid hcount] at hexec
    exact Host.Outcome.next.inj hexec
  set w := s.counted.advanceNotched.moveToPunch with hw
  have hnone : w.track.permit = none := by
    rw [hw, (State.moveToPunch_samePlaces _).permit, State.advanceNotched_track]
  obtain ⟨p', f, htrack⟩ := w.admission_track
  have hadmission := w.admission_permit hnone p
  rw [State.advanceEvent_eq, ← hw]
  refine ⟨hadmission.trans ?_, fun hp => w.admission_feedPermit hnone (by simp [hp])⟩
  simp only [htrack, State.die?, State.admission_frame]

end Sys2Proof.Machine
end

section
/-! PROOFS. The presence contact, the end of a descriptor read, PRESET_PIN_COUNTS (R101 to R114). -/

namespace Sys2Proof.Machine

open Sys2Proof.Safety

/-! ### The line moves -/

/-- A move of the line to another state enters its LINE_STATE event (R150). -/
theorem State.lineTo_of_ne (s : State) {m : Mode} (h : s.line.mode ≠ m) : s.lineTo m =
    { s with line := { s.line with mode := m }, notices := entered s.notices [lineStateEvent s.line.mode m] } := by
  rw [State.lineTo, if_neg h, State.push_eq_entered]
  rfl

/-! ### The contact -/

/-- Settles O40: the closing and the opening by the interface state, and a removal by the line state. -/
theorem contactTaken : Obligations.ContactTaken := by
  unfold Obligations.ContactTaken
  intro s hhigh
  constructor
  · change (if s.resetLow then _ else s.live State.contactCloses) = _
    rw [if_neg (by simp [hhigh]), live_high s _ hhigh, State.contactCloses, State.setOut_die]
    cases s.die.iface <;> rfl
  · change (if s.resetLow then _ else s.live State.contactOpens) = _
    rw [if_neg (by simp [hhigh]), live_high s _ hhigh, State.contactOpens, State.setOut_die]
    cases s.die.iface with
    | empty | mounting | refused => rfl
    | mounted d m =>
      simp only [State.push_eq_entered, State.dieGone, State.setDie_line, State.setOut_line]
      cases hline : s.line.mode with
      | ready =>
        dsimp only
        rw [State.lineTo_of_ne _ (by simp [hline]), entered_append]
        simp [State.setDie, State.setOut, hline, plainEvent, lineStateEvent, Mode.code]
      | noDie | running | draining | halted => rfl

/-! ### The end of a descriptor read -/

theorem freshPins_eq (d : DieRecord) : freshPins d = (List.range 64).map fun k =>
    { state := if d.n ≤ k then .absent else if k ∈ d.retired then .retired else .active, worn := false, count := 0 } := by
  simp only [freshPins, List.contains_iff_mem]

/-- Settles O41: by the interface state, the judgement of the bytes, and the line state of a mounting. -/
theorem descriptorJudged : Obligations.DescriptorJudged := by
  unfold Obligations.DescriptorJudged
  intro s fetched hhigh
  have hexec : exec (.descriptorReadComplete fetched) s = .next ((s.setOut []).readComplete fetched) :=
    live_high s (fun t => t.readComplete fetched) hhigh
  rw [hexec]
  refine ⟨fun hiface => congrArg _ ?_, fun c hiface hjudge => congrArg _ ?_, fun d hiface hjudge => ?_⟩
  · unfold State.readComplete
    split
    · next h => exact absurd h hiface
    · rfl
  · simp only [State.readComplete, State.setOut_die, hiface, hjudge, State.refuseDie, State.push_eq_entered]
    rfl
  · intro pins mounted ready
    refine congrArg _ ?_
    simp only [State.readComplete, State.setOut_die, hiface, hjudge, State.mount, State.push_eq_entered, freshPins_eq]
    by_cases hline : s.line.mode = .noDie
    · rw [if_pos (by exact hline), State.lineTo_of_ne _ (by simp [State.setDie, State.setOut, hline]), entered_append, if_pos hline,
        if_pos hline]
      simp [State.setDie, State.setOut, hline, plainEvent, lineStateEvent, Mode.code, mounted, ready, pins]
    · rw [if_neg (by exact hline), if_neg hline, if_neg hline]
      rfl

/-! ### PRESET_PIN_COUNTS -/

theorem presetPin_getElem? (d : DieRecord) (m : List Pin) (k n j : Nat) : (presetPin d m k n)[j]? =
    m[j]?.map fun x => if j = k then { x with count := n, worn := decide (d.wornAt ≤ n) } else x := by
  rw [presetPin, List.getElem?_modify]
  cases m[j]? with
  | none => rfl
  | some x =>
    by_cases h : k = j
    · simp [h]
    · simp [h, Ne.symm h]

/-- Each named pin takes its count, its worn flag recomputed, and no other pin changes (R114). -/
theorem presetPins_getElem? (d : DieRecord) (counts : List Nat) : ∀ (m : List Pin) (k j : Nat),
    (presetPins d m k counts)[j]? = m[j]?.map fun x =>
      if k ≤ j ∧ j < k + counts.length then
        { x with count := counts.getD (j - k) 0, worn := decide (d.wornAt ≤ counts.getD (j - k) 0) }
      else x := by
  induction counts with
  | nil =>
    intro m k j
    have hout : ¬ (k ≤ j ∧ j < k) := by omega
    simp [presetPins, hout]
  | cons n counts ih =>
    intro m k j
    rw [presetPins, ih, presetPin_getElem?, Option.map_map, List.length_cons]
    refine congrArg (m[j]?.map ·) (funext fun x => ?_)
    simp only [Function.comp_apply]
    obtain hlt | rfl | hgt := Nat.lt_trichotomy j k
    · rw [if_neg (by omega), if_neg (by omega), if_neg (by omega)]
    · rw [if_neg (by omega), if_pos rfl, if_pos (by omega), Nat.sub_self]
      rfl
    · have hsub : j - k = j - (k + 1) + 1 := by omega
      by_cases hin : j < k + 1 + counts.length
      · rw [if_pos (by omega), if_neg (by omega), if_pos (by omega), hsub]
        rfl
      · rw [if_neg (by omega), if_neg (by omega), if_neg (by omega)]

theorem presetPins_length (d : DieRecord) (counts : List Nat) : ∀ (m : List Pin) (k : Nat),
    (presetPins d m k counts).length = m.length := by
  induction counts with
  | nil => exact fun _ _ => rfl
  | cons n counts ih => exact fun m k => (ih _ _).trans (by simp [presetPin])

/-- The reply to PRESET_PIN_COUNTS: its checks in their order (R114). -/
theorem exec_presetPinCounts_eq (s : State) (tag : Byte) (body : List Byte) (h : Attending s) :
    exec (.presetPinCounts tag body) s = .next
      (if body.length < 2 ∨ !(inRange 1 16 (u8 body 1)) ∨ body.length ≠ 2 + 4 * u8 body 1 then refused s 0x17 tag .badLength
      else if s.line.mode ≠ .ready then refused s 0x17 tag .wrongState
      else
        match s.die.iface with
        | .mounted d m =>
          if u8 body 0 + u8 body 1 ≤ d.n then
            answered ((heard s).setPins d (presetPins d m (u8 body 0) (presetCounts body))) 0x17 tag .ok []
          else refused s 0x17 tag .badValue
        | _ => refused s 0x17 tag .wrongState) := by
  have hmode : (heard s).line.mode = s.line.mode := Line.goodFrame_mode s.line
  refine (request_replied .presetPinCounts tag body s h).trans (congrArg _ ?_)
  change (reqPresetPinCounts body (heard s)).replied 0x17 tag = _
  simp only [reqPresetPinCounts, Response.replied_ite, Response.replied_refuse, hmode, heard_die]
  refine if_congr Iff.rfl rfl (if_congr Iff.rfl rfl ?_)
  cases s.die.iface with
  | mounted d m => exact Response.replied_ite _ _ _ _ _
  | empty | mounting | refused => rfl

/-- Settles O44: each clause is the branch of `exec_presetPinCounts_eq` that its conditions lead to. -/
theorem pinCountsPreset : Obligations.PinCountsPreset := by
  unfold Obligations.PinCountsPreset
  intro s tag body h k c
  have hlength (hlen : body.length = 2 + 4 * c) (hlow : 1 ≤ c) (hhigh : c ≤ 16) :
      ¬ (body.length < 2 ∨ (!(inRange 1 16 c)) = true ∨ body.length ≠ 2 + 4 * c) := by
    simp [inRange, hlen, hlow, hhigh]
    omega
  rw [exec_presetPinCounts_eq s tag body h]
  refine ⟨fun hbad => ?_, fun hlen hlow hhigh hline => ?_, fun d m hlen hlow hhigh hline hdie => ⟨fun hout => ?_, fun hin => ?_⟩⟩
  · rw [if_pos]
    obtain hbad | hbad | hbad | hbad := hbad
    · exact .inl hbad
    · exact .inr (.inl (by simpa using (inRange_eq_false_iff 1 16 c).mpr (.inl hbad)))
    · exact .inr (.inl (by simpa using (inRange_eq_false_iff 1 16 c).mpr (.inr hbad)))
    · exact .inr (.inr hbad)
  · rw [if_neg (hlength hlen hlow hhigh), if_pos hline]
  · rw [if_neg (hlength hlen hlow hhigh), if_neg (not_not_intro hline), hdie]
    exact congrArg _ (if_neg (not_le.mpr hout))
  · rw [if_neg (hlength hlen hlow hhigh), if_neg (not_not_intro hline), hdie]
    refine ⟨_, congrArg _ (if_pos hin), presetPins_length _ _ _ _, fun j x hx => ?_⟩
    have hcounts : (presetCounts body).length = c := by simp [presetCounts, c]
    rw [presetPins_getElem?, hx, hcounts, Option.map_some]
    by_cases hj : k ≤ j ∧ j < k + c
    · have hcount : (presetCounts body).getD (j - k) 0 = u32 body (2 + 4 * (j - k)) := by
        have hlt : j - k < u8 body 1 := by omega
        simp [presetCounts, hlt]
      rw [if_pos hj, if_pos hj, hcount]
      rfl
    · rw [if_neg hj, if_neg hj]

end Sys2Proof.Machine
end

section
/-! PROOFS. The ends of a hole: HOLE_DONE, the step limit and the resume timer (R120 to R131). -/

namespace Sys2Proof.Machine

open Sys2Proof.Safety

/-- BIT_DUE where the bit count comes to its life (R131). -/
def State.bitDue (s : State) (b : Board) : List Event :=
  if 0 < s.drill.bitLife ∧ s.drill.bitCount + 1 = s.drill.bitLife then
    [{ kind := .bitDue, reason := none, book := b.book, seq := b.seq, value := s.drill.bitLife }] else []

/-- A complete hole: the board and the bit count it, and the index rises (R120, R131). -/
theorem State.countHole_eq (s : State) (b : Board) (hboard : s.drill.board = some b) : s.countHole =
    { s with
      track := s.track.drillHole
      drill := { s.drill with index := s.drill.index + 1, hole := .none, bitCount := bump32 s.drill.bitCount }
      notices := entered s.notices (s.bitDue b) } := by
  unfold State.countHole State.countBit State.bitDue
  dsimp only
  split
  · next h =>
    have hdue : 0 < s.drill.bitLife ∧ s.drill.bitCount + 1 = s.drill.bitLife := h
    rw [if_pos hdue, State.push_eq_entered]
    simp [State.boardEvent, State.setDrill, State.setTrack, hboard]
  · next h =>
    have hnot : ¬ (0 < s.drill.bitLife ∧ s.drill.bitCount + 1 = s.drill.bitLife) := h
    rw [if_neg hnot, entered_nil]
    rfl

/-- The suspension: its mode, and its DRILL_SUSPENDED (R125). -/
theorem State.suspendBoard_eq (s : State) (o : Origin) (b : Board) (hboard : s.drill.board = some b) : s.suspendBoard o =
    { s with
      drill := { s.drill with mode := .suspended o }
      notices := entered s.notices
        [{ kind := .drillSuspended, reason := s.suspendReason o, book := b.book, seq := b.seq,
           value := s.track.boardHoles }] } := by
  rw [State.suspendBoard, State.push_eq_entered]
  simp only [State.boardEvent, State.setDrill, hboard]
  rfl

section
variable (s : State) {ms : Nat}

theorem State.holeDone_of_not_running (h : ∀ ms, s.drill.hole ≠ .running ms) : s.holeDone = s := by
  unfold State.holeDone
  split
  · next ms hms => exact absurd hms (h ms)
  · rfl

theorem State.stepExpiry_of_not_running (h : ∀ ms, s.drill.hole ≠ .running ms) : s.stepExpiry = s := by
  unfold State.stepExpiry
  split
  · next ms hms => exact absurd hms (h ms)
  · rfl

theorem State.holeDone_of_drilling (h : s.drill.hole = .running ms) (hmode : s.drill.mode = .drilling) :
    s.holeDone = s.countHole.nextHole := by
  simp only [State.holeDone, h, hmode]

theorem State.holeDone_of_aborting (h : s.drill.hole = .running ms) (hmode : s.drill.mode = .aborting) :
    s.holeDone = s.countHole.finishBoard := by
  simp only [State.holeDone, h, hmode]

theorem State.holeDone_of_suspendPending {o : Origin} (h : s.drill.hole = .running ms)
    (hmode : s.drill.mode = .suspendPending o) : s.holeDone = s.countHole.suspendBoard o := by
  simp only [State.holeDone, h, hmode]

end

/-- Settles O46: HOLE_DONE by the hole and the controller's mode, with the counted hole as `State.countHole_eq` gives it. -/
theorem holeEndsTaken : Obligations.HoleEndsTaken := by
  unfold Obligations.HoleEndsTaken
  refine ⟨fun s hhigh => ⟨fun hnone => ?_, fun ms b hrunning hboard => ?_⟩,
    fun s hhigh => ⟨fun hnone => ?_, fun ms b hrunning hboard => ?_, ?_⟩⟩
  · exact (live_high s State.holeDone hhigh).trans (congrArg _ (State.holeDone_of_not_running _ hnone))
  · intro count due lane counted finished
    have hexec : exec .holeDone s = .next (s.setOut []).holeDone := live_high s State.holeDone hhigh
    have hcounted : (s.setOut []).countHole = counted := (s.setOut []).countHole_eq b hboard
    rw [hexec]
    refine ⟨fun hu hmode hhole => congrArg _ ?_, fun hmode hdone => congrArg _ ?_, fun hmode => congrArg _ ?_,
      fun o hmode => congrArg _ ?_⟩
    · rw [State.holeDone_of_drilling (s.setOut []) hrunning hmode, hcounted, counted.nextHole_of_hole b hu hboard hhole]
      simp [counted, hmode]
    · rw [State.holeDone_of_drilling (s.setOut []) hrunning hmode, hcounted, counted.nextHole_of_no_hole b hboard hdone]
      rfl
    · rw [State.holeDone_of_aborting (s.setOut []) hrunning hmode, hcounted]
      rfl
    · rw [State.holeDone_of_suspendPending (s.setOut []) hrunning hmode, hcounted, counted.suspendBoard_eq o b hboard, ← entered_append]
      rfl
  · exact (live_high s State.stepExpiry hhigh).trans (congrArg _ (State.stepExpiry_of_not_running _ hnone))
  · refine (live_high s State.stepExpiry hhigh).trans (congrArg _ ?_)
    simp only [State.stepExpiry, State.setOut_drill, hrunning, hboard]
    rfl
  · refine (live_high s State.resumeMark hhigh).trans (congrArg _ ?_)
    simp only [State.resumeMark, State.setOut_drill]
    cases s.drill.resume <;> rfl

end Sys2Proof.Machine
end

section
/-! PROOFS. The line states: a halt (R154), RUN and DRAIN and the end of a drain (R151 to R153). -/

namespace Sys2Proof.Machine

open Sys2Proof.Safety

/-- A staged profile becomes the active one, field by field (R84). -/
theorem Cycle.activate_eq (c : Cycle) :
    c.activate = { c with staged := none, active := match c.staged with | some p => p | none => c.active } := by
  obtain ⟨active, staged, hold, count, stroke, outstanding, chain⟩ := c
  cases staged <;> rfl

/-- Settles O52: the further cause by the mode, and the halt as `State.halt_cases` gives it. -/
theorem haltTaken : Obligations.HaltTaken := by
  unfold Obligations.HaltTaken
  refine fun s c => ⟨fun hhalted => ?_, fun hmode => ?_⟩
  · rw [State.halt, if_pos hhalted, State.push_eq_entered]
    rfl
  · rcases s.halt_cases c with ⟨hhalted, -⟩ | ⟨-, heq⟩
    · exact absurd hhalted hmode
    · have hnotices : ({ queue := enter (enter s.notices.queue (haltEvent c s.line.mode))
                                    (lineStateEvent s.line.mode .halted), attn := true } : Notices)
          = entered s.notices [haltEvent c s.line.mode, lineStateEvent s.line.mode .halted] := by simp [entered]
      rw [heq, Cycle.activate_eq, hnotices]
      rfl

/-- The end of a drain (R153, R87). -/
theorem State.judgeDrainEnd_ends (s : State) (hmode : s.line.mode = .draining) (hcount : s.track.count = 0)
    (hpermit : s.track.permit = none) : s.judgeDrainEnd =
      { s with
        line := { s.line with mode := .ready }
        cycle :=
          { s.cycle with
            hold := .heldClear, count := 0, stroke := [], outstanding := false, chain := [], staged := none
            active := match s.cycle.staged with | some p => p | none => s.cycle.active }
        out := s.out ++ [.pinLoad []]
        notices := entered s.notices
          [{ kind := .lineState, reason := none, book := 0, seq := 0, value := 1 + 256 * 3 }] } := by
  rw [State.judgeDrainEnd, if_pos ⟨hmode, hcount, hpermit⟩, State.lineTo_of_ne s (by simp [hmode]), State.holdClear,
    Cycle.activate_eq, lineStateEvent, hmode]
  rfl

theorem State.judgeDrainEnd_stays (s : State)
    (h : ¬ (s.line.mode = .draining ∧ s.track.count = 0 ∧ s.track.permit = none)) : s.judgeDrainEnd = s :=
  if_neg h

/-- The entry to DRAINING, with the end of the drain judged (R152). -/
theorem State.enterDraining_eq (s : State) (h : s.line.mode ≠ .draining) :
    s.enterDraining = State.judgeDrainEnd
      { s with
        line := { s.line with mode := .draining, watchTimer := .stopped, boundary := false }
        notices := entered s.notices
          [{ kind := .lineState, reason := none, book := 0, seq := 0, value := 3 + 256 * s.line.mode.code }] } := by
  rw [State.enterDraining, State.lineTo_of_ne s.stopWatch h]
  rfl

/-- The start of a run, from READY (R151). -/
theorem State.startRun_eq (s : State) (h : s.line.mode = .ready) : s.startRun =
    { s with
      line := { s.line with
        mode := .running, watchTimer := if 0 < s.line.watchPeriod then .running s.line.watchPeriod else .stopped }
      cycle := { s.cycle with hold := .released }
      notices := entered s.notices
        [{ kind := .lineState, reason := none, book := 0, seq := 0, value := 2 + 256 * 1 }] } := by
  rw [State.startRun, State.lineTo_of_ne _ (by simp [h])]
  simp only [h]
  rfl

/-- DRAIN with nothing in the track: the line passes through DRAINING to READY (R152, R153). -/
theorem State.enterDraining_of_empty (s : State) (h : s.line.mode = .running) (hcount : s.track.count = 0)
    (hpermit : s.track.permit = none) : s.enterDraining =
      { s with
        line := { s.line with mode := .ready, watchTimer := .stopped, boundary := false }
        cycle :=
          { s.cycle with
            hold := .heldClear, count := 0, stroke := [], outstanding := false, chain := [], staged := none
            active := match s.cycle.staged with | some p => p | none => s.cycle.active }
        out := s.out ++ [.pinLoad []]
        notices := entered s.notices
          [{ kind := .lineState, reason := none, book := 0, seq := 0, value := 3 + 256 * 2 },
           { kind := .lineState, reason := none, book := 0, seq := 0, value := 1 + 256 * 3 }] } := by
  refine (s.enterDraining_eq (by simp [h])).trans ((State.judgeDrainEnd_ends _ ?_ ?_ ?_).trans ?_)
  · rfl
  · exact hcount
  · exact hpermit
  · simp only [entered_append, h]
    rfl

/-- DRAIN with something in the track or a permit standing (R152). -/
theorem State.enterDraining_of_occupied (s : State) (h : s.line.mode = .running)
    (hheld : ¬ (s.track.count = 0 ∧ s.track.permit = none)) : s.enterDraining =
      { s with
        line := { s.line with mode := .draining, watchTimer := .stopped, boundary := false }
        notices := entered s.notices
          [{ kind := .lineState, reason := none, book := 0, seq := 0, value := 3 + 256 * 2 }] } := by
  refine (s.enterDraining_eq (by simp [h])).trans ((State.judgeDrainEnd_stays _ ?_).trans ?_)
  · exact fun hends => hheld hends.2
  · rw [h]
    rfl

/-- A good frame changes no more of the line than its watch timer (R156). -/
theorem Line.goodFrame_timer (l : Line) : ∃ w, l.goodFrame = { l with watchTimer := w } := by
  obtain h | ⟨-, h⟩ := l.goodFrame_cases
  · exact ⟨l.watchTimer, h⟩
  · exact ⟨.running l.watchPeriod, h⟩

/-- Settles O51: the end of a drain and the entry to DRAINING by their equations, the requests by the line state. -/
theorem runAndDrainJudged : Obligations.RunAndDrainJudged := by
  unfold Obligations.RunAndDrainJudged
  refine ⟨fun s => ⟨s.judgeDrainEnd_stays, s.judgeDrainEnd_ends⟩, State.enterDraining_eq,
    fun s tag body h => ?_⟩
  obtain ⟨timer, hline⟩ := s.line.goodFrame_timer
  have hheard : heard s = { s with out := [], line := { s.line with watchTimer := timer } } := by rw [heard, hline]
  constructor
  · refine (request_replied .run tag body s h).trans (congrArg _ ?_)
    change (reqRun body (heard s)).replied 0x03 tag = _
    simp only [reqRun, Response.replied_ite, Response.replied_refuse, Response.replied_accept]
    by_cases hlength : body.length ≠ 0
    · rw [if_pos hlength, if_pos hlength]
    by_cases hready : s.line.mode = .ready
    · have hready' : (heard s).line.mode = .ready := s.line.goodFrame_mode.trans hready
      rw [if_neg hlength, if_neg hlength, if_pos hready, if_neg (not_not.mpr hready'), (heard s).startRun_eq hready']
      simp only [heard, hline]
    · have hready' : (heard s).line.mode ≠ .ready := fun e => hready (s.line.goodFrame_mode.symm.trans e)
      rw [if_neg hlength, if_neg hlength, if_neg hready, if_pos hready']
  · refine (request_replied .drain tag body s h).trans (congrArg _ ?_)
    change (reqDrain body (heard s)).replied 0x04 tag = _
    simp only [reqDrain, Response.replied_ite, Response.replied_refuse, Response.replied_accept]
    by_cases hlength : body.length ≠ 0
    · rw [if_pos hlength, if_pos hlength]
    by_cases hrunning : s.line.mode = .running
    · have hrunning' : (heard s).line.mode = .running := s.line.goodFrame_mode.trans hrunning
      rw [if_neg hlength, if_neg hlength, if_pos hrunning, if_neg (not_not.mpr hrunning')]
      by_cases hempty : s.track.count = 0 ∧ s.track.permit = none
      · rw [if_pos hempty]
        rw [hheard] at hrunning' ⊢
        exact congrArg (answered · 0x04 tag .ok []) (State.enterDraining_of_empty _ hrunning' hempty.1 hempty.2)
      · rw [if_neg hempty, (heard s).enterDraining_of_occupied hrunning' hempty]
        simp only [heard, hline]
    · have hrunning' : (heard s).line.mode ≠ .running := fun e => hrunning (s.line.goodFrame_mode.symm.trans e)
      rw [if_neg hlength, if_neg hlength, if_neg hrunning, if_pos hrunning']

end Sys2Proof.Machine
end

section
/-! PROOFS. The Wire Feed, the Closer and the Stacker (R72, R135 to R147). -/

namespace Sys2Proof.Machine

open Sys2Proof.Safety

/-! ### The Wire Feed -/

/-- WIRE_LOW where a start takes the spool through the low mark (R140). -/
theorem State.judgeWireLow_eq (s : State) (book before : Nat) : s.judgeWireLow book before =
    { s with
      notices := entered s.notices
        (if 0 < s.wire.lowMark ∧ s.wire.lowMark ≤ before ∧ s.wire.spool < s.wire.lowMark then
          [{ kind := .wireLow, reason := none, book := book, seq := 0, value := min s.wire.spool 65535 }] else []) } := by
  have hmin : (if s.wire.spool < 65535 then s.wire.spool else 65535) = min s.wire.spool 65535 := by
    split <;> omega
  unfold State.judgeWireLow
  split
  · rw [State.push_eq_entered, hmin]
    rfl
  · rw [entered_nil]

/-- A start with wire enough (R139, R140). -/
theorem State.startCut_of_enough (s : State) (b : Book) {n : Nat} (first : Bool) (ht : b.tBook = some n)
    (h : n ≤ s.wire.spool) : s.startCut b first =
      { s with
        wire := { s.wire with feeder := .feeding b.id n (.running 0), spool := s.wire.spool - n }
        out := s.out ++ [.wireCut n (b.hanger == .hook)]
        notices := entered s.notices
          (if 0 < s.wire.lowMark ∧ s.wire.lowMark ≤ s.wire.spool ∧ s.wire.spool - n < s.wire.lowMark then
            [{ kind := .wireLow, reason := none, book := b.id, seq := 0, value := min (s.wire.spool - n) 65535 }]
          else []) } := by
  have hcount : b.tBook.getD 0 = n := by simp [ht]
  rcases s.startCut_cases b first with ⟨-, heq⟩ | ⟨hshort, -⟩
  · rw [heq, hcount, State.judgeWireLow_eq]
  · omega

/-- A start with too little wire: the feeder waits, and WIRE_OUT at the first start alone (R140, R143). -/
theorem State.startCut_of_short (s : State) (b : Book) {n : Nat} (first : Bool) (ht : b.tBook = some n)
    (h : s.wire.spool < n) : s.startCut b first =
      { s with
        wire := { s.wire with feeder := .waitingWire b.id }
        notices := entered s.notices
          (if first then [{ kind := .wireOut, reason := none, book := b.id, seq := 0, value := n }] else []) } := by
  have hcount : b.tBook.getD 0 = n := by simp [ht]
  rcases s.startCut_cases b first with ⟨henough, -⟩ | ⟨-, heq⟩
  · omega
  · rw [heq, hcount, State.push_eq_entered]
    cases first with
    | true => rfl
    | false =>
      rw [if_neg Bool.false_ne_true, if_neg Bool.false_ne_true, entered_nil]

/-- The feeder starts for a tray book that is held (R139). -/
theorem State.wireStart_of_idle (s : State) {id : Nat} (hfeeder : s.wire.feeder = .idle) (htray : s.tray.book? = some id) :
    s.wireStart = match s.book? id with
      | none => s
      | some b => if b.state = .spoiled then s else s.startCut b true := by
  simp only [State.wireStart, hfeeder, htray, Option.bind_some]
  cases s.book? id <;> rfl

/-- No start with the feeder busy or the tray EMPTY (R139). -/
theorem State.wireStart_stays (s : State) (h : s.wire.feeder ≠ .idle ∨ s.tray = .empty) : s.wireStart = s := by
  rcases s.wireStart_cases with heq | ⟨id, b, hfeeder, htray, -⟩
  · exact heq
  · rcases h with h | h
    · exact absurd hfeeder h
    · simp [h, Tray.book?] at htray

theorem State.cutDone_of_not_running (s : State) (h : ∀ id n ms, s.wire.feeder ≠ .feeding id n (.running ms)) :
    s.cutDone = s := by
  unfold State.cutDone
  split
  · next id n ms hms => exact absurd hms (h id n ms)
  · rfl

theorem State.feedExpiry_of_not_running (s : State) (h : ∀ id n ms, s.wire.feeder ≠ .feeding id n (.running ms)) :
    s.feedExpiry = s := by
  unfold State.feedExpiry
  split
  · next id n ms hms => exact absurd hms (h id n ms)
  · rfl

/-- Settles O47: CUT_DONE and the feed timer by the feeder, a start by the tray book and the spool. -/
theorem wireFeedTaken : Obligations.WireFeedTaken := by
  unfold Obligations.WireFeedTaken
  refine ⟨fun s hhigh => ?_, fun s => ⟨s.wireStart_stays, fun id hfeeder htray => ⟨fun hbook => ?_, fun b hbook => ?_⟩⟩,
    fun s b n first ht => ⟨s.startCut_of_enough b first ht, s.startCut_of_short b first ht⟩⟩
  · have hdone : exec .cutDone s = .next (s.setOut []).cutDone := live_high s State.cutDone hhigh
    have hexpiry : exec .feedTimerExpiry s = .next (s.setOut []).feedExpiry := live_high s State.feedExpiry hhigh
    rw [hdone, hexpiry]
    refine ⟨fun hnone => ⟨congrArg _ ?_, congrArg _ ?_⟩,
      fun id n ms hfeeder => ⟨fun hsound => congrArg _ ?_, fun b hbook hspoiled => congrArg _ ?_, congrArg _ ?_⟩⟩
    · exact (s.setOut []).cutDone_of_not_running hnone
    · exact (s.setOut []).feedExpiry_of_not_running hnone
    · have hnot : (s.setOut []).isSpoiled id = false := ((s.setOut []).isSpoiled_eq_false id).mpr hsound
      simp only [State.cutDone, State.setOut_wire, hfeeder, hnot]
      rfl
    · have hyes : (s.setOut []).isSpoiled id = true := by
        simp [State.isSpoiled, State.book?, hbook, hspoiled]
      simp only [State.cutDone, State.setOut_wire, hfeeder, hyes]
      rfl
    · simp only [State.feedExpiry, State.setOut_wire, hfeeder]
      rfl
  · rw [s.wireStart_of_idle hfeeder htray, State.book?, hbook]
  · rw [s.wireStart_of_idle hfeeder htray, State.book?, hbook]

/-! ### SET_WIRE_SUPPLY -/

theorem clampTo_eq_min (top n : Nat) : clampTo top n = min n top := by
  unfold clampTo
  split <;> omega

/-- Only a waiting feeder whose book is held starts again (R143). -/
theorem State.retryCut_eq (s : State) : s.retryCut =
    match s.wire.feeder with
    | .waitingWire id =>
      match s.book? id with
      | some b => s.startCut b false
      | none => s
    | _ => s := rfl

/-- Settles O48: the clamped counts, the start made again of a waiting feeder, and the reply from what stands then. -/
theorem wireSupplySet : Obligations.WireSupplySet := by
  unfold Obligations.WireSupplySet
  refine fun s tag body h => ⟨fun hlength => ?_, fun hlength => ?_⟩
  · refine (request_replied .setWireSupply tag body s h).trans (congrArg _ ?_)
    change (reqSetWireSupply body (heard s)).replied 0x1D tag = _
    rw [reqSetWireSupply, if_pos hlength]
    rfl
  · intro taken t
    refine (request_replied .setWireSupply tag body s h).trans (congrArg _ ?_)
    change (reqSetWireSupply body (heard s)).replied 0x1D tag = _
    have htaken : ((heard s).setWire { (heard s).wire with
        spool := clampTo 1000000 (u32 body 0), lowMark := clampTo 1000000 (u32 body 4)
        hooks := clampTo 9999 (u16 body 8) }) = taken := by
      simp only [clampTo_eq_min]
      rfl
    have hretried : (heard s).supply (u32 body 0) (u32 body 4) (u16 body 8) = t := by
      rw [State.supply, htaken]
      exact congrArg State.judgeCloser taken.retryCut_eq
    rw [reqSetWireSupply, if_neg (not_not.mpr hlength), hretried]
    rfl

/-! ### The Closer -/

theorem State.judgeCloser_stays (s : State)
    (h : ∀ id n, ¬ (s.tray = .complete id ∧ s.closer.mode = .idle ∧ s.wire.feeder = .cutReady id n)) :
    s.judgeCloser = s := by
  rcases s.judgeCloser_cases with heq | ⟨id, n, b, htray, hmode, hfeeder, -⟩
  · exact heq
  · exact absurd ⟨htray, hmode, hfeeder⟩ (h id n)

theorem State.judgeCloser_of_halted (s : State) (h : s.line.mode = .halted) : s.judgeCloser = s := by
  rcases s.judgeCloser_cases with heq | ⟨id, n, b, -, -, -, hrunning, -⟩
  · exact heq
  · exact absurd h hrunning

/-- The start of a close, or the hook wait that keeps it from starting (R144 to R146). -/
theorem State.judgeCloser_ready (s : State) {id n : Nat} {b : Book} (htray : s.tray = .complete id)
    (hmode : s.closer.mode = .idle) (hfeeder : s.wire.feeder = .cutReady id n) (hline : s.line.mode ≠ .halted)
    (hbook : s.book? id = some b) : s.judgeCloser =
      if b.hanger = .hook ∧ s.wire.hooks = 0 then
        if s.closer.hookWait then s
        else (s.setCloser { s.closer with hookWait := true }).push (plainEvent .hooksOut id 0)
      else s.startClose b := by
  simp only [State.judgeCloser, htray, hmode, hfeeder, hbook]
  rw [if_pos ⟨trivial, hline⟩]

theorem State.closeDone_of_not_running (s : State) (h : ∀ id l ms, s.closer.mode ≠ .closing id l (.running ms)) :
    s.closeDone = s := by
  unfold State.closeDone
  split
  · next id l ms hms => exact absurd hms (h id l ms)
  · rfl

theorem State.closeExpiry_of_not_running (s : State) (h : ∀ id l ms, s.closer.mode ≠ .closing id l (.running ms)) :
    s.closeExpiry = s := by
  unfold State.closeExpiry
  split
  · next id l ms hms => exact absurd hms (h id l ms)
  · rfl

/-- Settles O50: the judgement of the Closer by its requirements, its end and its limit by the close under way. -/
theorem closerTaken : Obligations.CloserTaken := by
  unfold Obligations.CloserTaken
  refine ⟨fun s => ⟨s.judgeCloser_stays, s.judgeCloser_of_halted, fun id n b htray hmode hfeeder hline hbook =>
    ⟨fun hhook hempty => ?_, fun hstock => ?_⟩⟩, fun s hhigh => ?_⟩
  · rw [s.judgeCloser_ready htray hmode hfeeder hline hbook, if_pos ⟨hhook, hempty⟩, State.push_eq_entered]
    rfl
  · have hnot : ¬ (b.hanger = .hook ∧ s.wire.hooks = 0) := fun h => hstock.elim (fun hne => hne h.1) (by omega)
    have hid : b.id = id := State.book?_id hbook
    rw [s.judgeCloser_ready htray hmode hfeeder hline hbook, if_neg hnot, ← hid]
    rfl
  · have hdone : exec .closeDone s = .next (s.setOut []).closeDone := live_high s State.closeDone hhigh
    have hexpiry : exec .closeLimitExpiry s = .next (s.setOut []).closeExpiry := live_high s State.closeExpiry hhigh
    rw [hdone, hexpiry]
    refine ⟨fun hnone => ⟨congrArg _ ?_, congrArg _ ?_⟩, fun id l ms hclosing => ⟨fun b n hbook ht => congrArg _ ?_, congrArg _ ?_⟩⟩
    · exact (s.setOut []).closeDone_of_not_running hnone
    · exact (s.setOut []).closeExpiry_of_not_running hnone
    · simp only [State.closeDone, State.setOut_closer, hclosing, State.push_eq_entered]
      have hcount : (((s.setOut []).book? id).bind (·.tBook)).getD 0 = n := by
        simp [State.book?, hbook, ht]
      rw [hcount]
      rfl
    · simp only [State.closeExpiry, State.setOut_closer, hclosing]
      rfl

/-! ### The Stacker -/

/-- The changed record is found in its book's place. -/
theorem State.book?_updateBook_self (s : State) {id : Nat} {b : Book} (f : Book → Book) (hf : ∀ b, (f b).id = b.id)
    (h : s.book? id = some b) : (s.updateBook id f).book? id = some (f b) := by
  have hid : b.id = id := State.book?_id h
  have hpred : (fun x : Book => x.id == id) ∘ (fun x => if x.id = id then f x else x) = fun x => x.id == id := by
    funext x
    by_cases hx : x.id = id <;> simp [hx, hf]
  simp only [State.updateBook, State.book?, State.setBooks, List.find?_map, hpred]
  rw [show s.books.find? (fun x => x.id == id) = some b from h, Option.map_some, if_pos hid]

/-- Two changes of one record that keep its id are one change. -/
theorem map_changes (l : List Book) (id : Nat) (f g : Book → Book) (hf : ∀ b, (f b).id = b.id) :
    (l.map fun x => if x.id = id then f x else x).map (fun x => if x.id = id then g x else x)
      = l.map fun x => if x.id = id then g (f x) else x := by
  rw [List.map_map]
  refine List.map_congr_left fun x _ => ?_
  by_cases hx : x.id = id <;> simp [hx, hf]

section
variable (s : State) {id : Nat} {b : Book}

theorem State.offerHead_of_held (h : s.book? id = some b) : s.offerHead id =
    if b.state = .spoiled then s.dumpSheet id else if s.tray.takes id then s.stackSheet id else s := by
  simp only [State.offerHead, h]

theorem State.completeTray_of_more (h : s.book? id = some b) (hmore : b.stacked ≠ b.leaves.length) :
    s.completeTray id = s := by
  simp only [State.completeTray, h, if_neg hmore]

theorem State.completeTray_of_last (h : s.book? id = some b) (hlast : b.stacked = b.leaves.length) :
    s.completeTray id = ((s.updateBook id fun b => { b with state := .stacked }).setTray (.complete id)).judgeCloser := by
  simp only [State.completeTray, h, if_pos hlast]

theorem State.openTray_of_not_empty (h : s.tray ≠ .empty) : s.openTray id = s := by
  unfold State.openTray
  split
  · next hempty => exact absurd hempty h
  · rfl

/-- An EMPTY tray is opened, and the Wire Feed starts for its book when the feeder is IDLE (R136, R139). -/
theorem State.openTray_of_empty (h : s.tray = .empty) (hbook : s.book? id = some b) (hsound : b.state ≠ .spoiled) :
    s.openTray id = if s.wire.feeder = .idle then (s.setTray (.building id)).startCut b true
      else s.setTray (.building id) := by
  simp only [State.openTray, h]
  split
  · next hidle =>
    rw [(s.setTray (.building id)).wireStart_of_idle hidle rfl]
    have hheld : (s.setTray (.building id)).book? id = some b := hbook
    simp only [hheld, if_neg hsound]
  · next hbusy => exact (s.setTray (.building id)).wireStart_stays (.inl hbusy)

end

/-- The state with the head laid on the tray: the LANE without it, and its book's stacked count (R136, step 1). -/
def State.headLaid (s : State) (id : Nat) : State :=
  (s.setTrack s.track.popLane).updateBook id fun b => { b with stacked := b.stacked + 1 }

theorem State.headLaid_book? (s : State) {id : Nat} {b : Book} (h : s.book? id = some b) :
    (s.headLaid id).book? id = some { b with stacked := b.stacked + 1 } :=
  (s.setTrack s.track.popLane).book?_updateBook_self _ (fun _ => rfl) h

/-- The books after the last leaf: stacked and STACKED (R136, steps 1 and 3). -/
theorem State.headLaid_completed (s t : State) (id : Nat) (h : t.books = (s.headLaid id).books) :
    t.updateBook id (fun b => { b with state := .stacked }) =
      { t with books := s.books.map fun x =>
          if x.id = id then { x with stacked := x.stacked + 1, state := .stacked } else x } := by
  rw [State.updateBook, State.setBooks, h]
  exact congrArg (fun books => { t with books := books })
    (map_changes s.books id (fun b => { b with stacked := b.stacked + 1 }) _ fun _ => rfl)

/-- Settles O49: the head by its book's state and the tray, with the tray opened, the count and the completion in turn. -/
theorem headOffered : Obligations.HeadOffered := by
  unfold Obligations.HeadOffered
  refine fun s => ⟨fun hlane => ?_, fun e rest hlane => ⟨fun haway => ?_, fun b haway hbook => ?_⟩⟩
  · simp only [State.handOver, hlane]
  · simp only [State.handOver, hlane, haway, if_true]
  · have hoffer : s.handOver = s.offerHead e.sheet.book := by
      simp only [State.handOver, hlane, haway, Bool.false_eq_true, if_false]
    have hheld : s.book? e.sheet.book = some b := hbook
    have hpop : s.track.popLane = { s.track with lane := rest } := by rw [Track.popLane, hlane]; rfl
    have hlaid := s.headLaid_book? hheld
    have hstack : s.stackSheet e.sheet.book =
      (((s.headLaid e.sheet.book).openTray e.sheet.book).completeTray e.sheet.book).judgeDrainEnd := rfl
    rw [hoffer, s.offerHead_of_held hheld]
    refine ⟨fun hspoiled => ?_, fun hsound hfull hother => ?_, fun hsound htray hmore => ?_, fun hsound htray hlast => ?_,
      fun hsound htray => ?_⟩
    · rw [if_pos hspoiled, State.dumpSheet, hpop]
      rfl
    · have hnot : s.tray.takes e.sheet.book = false := by
        cases htray : s.tray with
        | empty => exact absurd htray hfull
        | building id =>
          have hne : id ≠ e.sheet.book := fun h => hother (h ▸ htray)
          simp [Tray.takes, hne]
        | complete id => rfl
      rw [if_neg hsound, hnot, if_neg Bool.false_ne_true]
    · have hopen : (s.headLaid e.sheet.book).openTray e.sheet.book = s.headLaid e.sheet.book :=
        State.openTray_of_not_empty (s.headLaid e.sheet.book) (by simp [State.headLaid, htray])
      rw [if_neg hsound, if_pos (by simp [htray, Tray.takes]), hstack, hopen, State.completeTray_of_more _ hlaid hmore,
        State.headLaid, hpop]
      rfl
    · have hopen : (s.headLaid e.sheet.book).openTray e.sheet.book = s.headLaid e.sheet.book :=
        State.openTray_of_not_empty (s.headLaid e.sheet.book) (by simp [State.headLaid, htray])
      rw [if_neg hsound, if_pos (by simp [htray, Tray.takes]), hstack, hopen, State.completeTray_of_last _ hlaid hlast,
        s.headLaid_completed _ _ rfl, State.headLaid, hpop]
      rfl
    · intro laid opened
      have hopen : (s.headLaid e.sheet.book).openTray e.sheet.book = opened := by
        rw [State.openTray_of_empty _ (by simp [State.headLaid, htray]) hlaid hsound, State.headLaid, hpop]
        rfl
      have hbooks : opened.books = (s.headLaid e.sheet.book).books := by
        rw [← hopen]
        simp
      have hopened : opened.book? e.sheet.book = some { b with stacked := b.stacked + 1 } := by
        rw [State.book?, hbooks]
        exact hlaid
      rw [if_neg hsound, if_pos (by simp [htray, Tray.takes]), hstack, hopen]
      refine ⟨fun hmore => ?_, fun hlast => ?_⟩
      · rw [State.completeTray_of_more _ hopened hmore]
      · rw [State.completeTray_of_last _ hopened hlast, s.headLaid_completed _ _ hbooks]
        rfl

end Sys2Proof.Machine
end

section
/-! PROOFS. The receiver, the answering side, the watch and the restarts (R156, R157, R161 to R173). -/

namespace Sys2Proof.Machine

open Sys2Proof.Safety

/-! ### The line-silence watch -/

theorem clampPeriod_eq (ms : Nat) :
    clampPeriod ms = if ms = 0 then 0 else if ms < 100 then 100 else min ms 10000 := by
  unfold clampPeriod
  split_ifs <;> omega

/-- SET_WATCH sets the period and the mode, and restarts the timer in RUNNING (R156). -/
theorem Line.setWatch_eq (l : Line) (ms : Nat) (m : WatchMode) : l.setWatch ms m =
    { l with
      watchPeriod := clampPeriod ms, watchMode := m
      watchTimer := if l.mode = .running then (if 0 < clampPeriod ms then .running (clampPeriod ms) else .stopped)
        else l.watchTimer } := by
  unfold Line.setWatch Line.startWatch
  dsimp only
  split <;> rfl

/-- A good frame leaves no trace in the line once the watch is set: the timer runs in RUNNING only where it ran. -/
theorem Line.goodFrame_setWatch (l : Line) (ms : Nat) (m : WatchMode) : l.goodFrame.setWatch ms m = l.setWatch ms m := by
  obtain h | ⟨hmode, h⟩ := l.goodFrame_cases
  · rw [h]
  · simp only [h, Line.setWatch_eq, if_pos hmode]

/-- SET_WATCH in the part it is heard in (R156). -/
theorem State.setWatch_heard (s : State) (ms : Nat) (m : WatchMode) :
    (heard s).setLine ((heard s).line.setWatch ms m) = { heard s with line := s.line.setWatch ms m } := by
  rw [← s.line.goodFrame_setWatch]
  rfl

/-- Settles O54: SET_WATCH by its checks and its mode, the expiry by the timer and the mode. -/
theorem watchTaken : Obligations.WatchTaken := by
  unfold Obligations.WatchTaken
  refine fun s hhigh => ⟨fun tag body hidle => ?_, fun hstopped => ?_, fun left hrunning => ?_⟩
  · intro period held line
    have hheld : clampPeriod (u16 body 0) = held := clampPeriod_eq _
    have hline (m : WatchMode) : s.line.setWatch (u16 body 0) m = line m := by
      rw [Line.setWatch_eq, hheld]
    refine (request_replied .setWatch tag body s ⟨hhigh, hidle⟩).trans (congrArg _ ?_)
    change (reqSetWatch body (heard s)).replied 0x1E tag = _
    by_cases hlength : body.length ≠ 3
    · rw [reqSetWatch, if_pos hlength, if_pos hlength]
      rfl
    rw [reqSetWatch, if_neg hlength, if_neg hlength]
    by_cases hzero : u8 body 2 = 0
    · rw [if_pos hzero, hzero, ← hline, ← s.setWatch_heard, ← hheld]
      rfl
    by_cases hone : u8 body 2 = 1
    · rw [if_neg hzero, if_pos hone, hone, ← hline, ← s.setWatch_heard, ← hheld]
      rfl
    · rw [if_neg hzero, if_neg hone, WatchMode.ofCode, if_neg hzero, if_neg hone]
      rfl
  · refine (live_high s State.watchExpiry hhigh).trans (congrArg _ ?_)
    simp only [State.watchExpiry, State.setOut_line, hstopped]
    rfl
  · have hexec : exec .watchTimerExpiry s = .next (s.setOut []).watchExpiry := live_high s State.watchExpiry hhigh
    rw [hexec]
    refine ⟨fun hmode => congrArg _ ?_, fun hmode => congrArg _ ?_⟩
    · simp only [State.watchExpiry, State.setOut_line, hrunning, State.push_eq_entered, hmode, State.setLine_line]
      rfl
    · simp only [State.watchExpiry, State.setOut_line, hrunning, State.push_eq_entered, hmode, State.setLine_line]
      rfl

end Sys2Proof.Machine
end

section
/-! PROOFS. The receiver: each byte in each state, and a frame sent byte by byte (R164 to R170). -/

namespace Sys2Proof.Machine

open Sys2Proof.Safety

/-! ### The assembly of a frame -/

/-- The length field stands once its two bytes do. -/
theorem u16_append_left (bytes more : List Byte) (h : 2 ≤ bytes.length) : u16 (bytes ++ more) 0 = u16 bytes 0 := by
  rw [u16, u16, u8_append_left _ _ 0 (by omega), u8_append_left _ _ 1 (by omega)]

theorem u16_append_right (a b : List Byte) (o : Nat) : u16 (a ++ b) (a.length + o) = u16 b o := by
  rw [u16, u16, u8_append_right, Nat.add_assoc, u8_append_right]

section
variable (s : State) {bytes : List Byte}

theorem inRange_lengths_iff : inRange 2 512 (u16 bytes 0) = true ↔ 2 ≤ u16 bytes 0 ∧ u16 bytes 0 ≤ 512 := by
  simp [inRange]

/-- A byte that does not complete a frame is held, also a second length byte that gives a length within 2 to 512 (R167). -/
theorem State.frameByte_held (hmore : bytes.length < u16 bytes 0 + 4)
    (hrange : bytes.length = 2 → 2 ≤ u16 bytes 0 ∧ u16 bytes 0 ≤ 512) :
    s.frameByte bytes = s.setLink { s.link with receiver := .inFrame bytes } := by
  unfold State.frameByte
  by_cases hfirst : bytes.length < 2
  · rw [if_pos hfirst]
  by_cases hsecond : bytes.length = 2
  · rw [if_neg hfirst, if_pos hsecond, if_pos (inRange_lengths_iff.mpr (hrange hsecond))]
  · rw [if_neg hfirst, if_neg hsecond, if_pos hmore]

/-- A length outside 2 to 512 drops the frame with BAD_LENGTH (R167). -/
theorem State.frameByte_badLength (hsecond : bytes.length = 2) (hrange : ¬ (2 ≤ u16 bytes 0 ∧ u16 bytes 0 ≤ 512)) :
    s.frameByte bytes = s.setLink (s.link.dropFrame .badLength .discard) := by
  rw [State.frameByte, if_neg (by omega), if_pos hsecond, if_neg (mt inRange_lengths_iff.mp hrange)]

/-- The last byte of a frame: its check code is judged (R167). -/
theorem State.frameByte_last (hlast : bytes.length = u16 bytes 0 + 4) : s.frameByte bytes =
    if checkAgrees bytes then (s.setLink { s.link with receiver := .hunt }).goodFrame (assembled bytes)
    else s.setLink (s.link.dropFrame .crc .hunt) := by
  rw [State.frameByte, if_neg (by omega), if_neg (by omega), if_neg (by omega)]

end

/-- The check code is judged over the bytes before it (R165). -/
theorem checkAgrees_append {bytes : List Byte} (b : Byte) (hlast : bytes.length = u16 bytes 0 + 3) (htwo : 2 ≤ bytes.length) :
    checkAgrees (bytes ++ [b]) = true ↔
      (crc (bytes.take (u16 bytes 0 + 2))).toNat = u16 (bytes ++ [b]) (u16 bytes 0 + 2) := by
  simp only [checkAgrees, u16_append_left bytes [b] htwo, beq_iff_eq]
  rw [List.take_append_of_le_length (by omega)]

/-- The last byte belongs to the check code, not to the frame (R164). -/
theorem assembled_append {bytes : List Byte} (b : Byte) (hlast : bytes.length = u16 bytes 0 + 3) (htwo : 2 ≤ u16 bytes 0) :
    assembled (bytes ++ [b]) =
      { kind := bytes.getD 2 0, tag := bytes.getD 3 0, body := (bytes.drop 4).take (u16 bytes 0 - 2) } := by
  have hget (i : Nat) (h : i < bytes.length) : (bytes ++ [b]).getD i 0 = bytes.getD i 0 := by
    simp [List.getD, List.getElem?_append_left h]
  have hbody : ((bytes ++ [b]).drop 4).take (u16 bytes 0 - 2) = (bytes.drop 4).take (u16 bytes 0 - 2) := by
    rw [List.drop_append_of_le_length (by omega), List.take_append_of_le_length (by simp; omega)]
  rw [assembled, u16_append_left bytes [b] (by omega), hget 2 (by omega), hget 3 (by omega), hbody]

/-- Settles O59: each byte by the receiver state and its place in the frame, the framing error and the silence by the
receiver state. -/
theorem receiverTakes : Obligations.ReceiverTakes := by
  unfold Obligations.ReceiverTakes
  intro s hhigh counted plain
  have hbyte (b : Byte) : exec (.rxByte b) s = .next ((s.setOut []).rxByte b) := live_high s (fun t => t.rxByte b) hhigh
  have hframe {bytes : List Byte} (b : Byte) (h : s.link.receiver = .inFrame bytes) : exec (.rxByte b) s =
      .next (((s.setOut []).setLink { s.link with silence := .running 0 }).frameByte (bytes ++ [b])) := by
    rw [hbyte]
    simp only [State.rxByte, State.setLink_link, State.setOut_link, h]
  refine ⟨fun b hhunt => ?_, fun b hdiscard => ?_, fun b hin => ?_, fun b lo hin => ?_,
    fun b bytes hin htwo hmore => ?_, fun b bytes hin hlast htwo hagrees => ?_, fun b bytes hin hlast htwo hwrong => ?_,
    ?_, fun hstopped => ?_, fun ms hrunning => ?_⟩
  · rw [hbyte]
    refine congrArg _ ?_
    simp only [State.rxByte, State.setLink_link, State.setOut_link, hhunt, Link.huntByte]
    by_cases hstart : b = 0xC3
    · rw [if_pos hstart, if_pos hstart]
      rfl
    by_cases hnoise : s.link.noiseOpen = true
    · rw [if_neg hstart, if_pos hnoise, if_neg hstart, if_pos hnoise]
      simp [plain, hnoise, State.setLink, State.setOut]
    · rw [if_neg hstart, if_neg hnoise, if_neg hstart, if_neg hnoise]
      rfl
  · rw [hbyte]
    refine congrArg _ ?_
    simp only [State.rxByte, State.setLink_link, State.setOut_link, hdiscard]
    simp [plain, State.setLink, State.setOut]
  · rw [hframe b hin, State.frameByte_held _ (by simp) (by simp)]
    rfl
  · rw [hframe b hin]
    refine congrArg _ ?_
    have hlength : u16 ([lo] ++ [b]) 0 = lo.toNat + 256 * b.toNat := rfl
    split
    · next hrange =>
      rw [State.frameByte_held _ (by rw [hlength]; simp) (fun _ => by rwa [hlength])]
      rfl
    · next hrange =>
      rw [State.frameByte_badLength _ rfl (by rwa [hlength])]
      rfl
  · rw [hframe b hin, State.frameByte_held _ (by rw [u16_append_left _ _ htwo]; simp; omega) (by simp; omega)]
    rfl
  · rw [hframe b hin, State.frameByte_last _ (by rw [u16_append_left _ _ (by omega)]; simp; omega),
      if_pos ((checkAgrees_append b hlast (by omega)).mpr hagrees), assembled_append b hlast htwo]
    rfl
  · rw [hframe b hin, State.frameByte_last _ (by rw [u16_append_left _ _ htwo]; simp; omega),
      if_neg (mt (checkAgrees_append b hlast htwo).mp hwrong)]
    rfl
  · refine (live_high s State.framingError hhigh).trans (congrArg _ ?_)
    simp only [State.framingError, State.setLink_link, State.setOut_link]
    cases hreceiver : s.link.receiver with
    | hunt | inFrame bytes => rfl
    | discard => simp [plain, State.setLink, State.setOut]
  · refine (live_high s State.silenceExpiry hhigh).trans (congrArg _ ?_)
    simp only [State.silenceExpiry, State.setOut_link, hstopped]
    rfl
  · refine (live_high s State.silenceExpiry hhigh).trans (congrArg _ ?_)
    simp only [State.silenceExpiry, State.setLink_link, State.setOut_link, hrunning]
    cases hreceiver : s.link.receiver with
    | hunt => simp [plain, State.setLink, State.setOut]
    | inFrame bytes | discard => rfl

/-! ### A frame sent byte by byte -/

/-- The state that has taken the start byte and some of the bytes after it. -/
def State.receiving (s : State) (bytes : List Byte) : State :=
  { s with
    out := []
    link := { s.link with receiver := .inFrame bytes, noiseOpen := false, silence := .running 0 } }

/-- The bytes of a request frame after its start byte (R164). -/
def Frame.rest (f : Frame) : List Byte :=
  let covered := le16 (f.body.length + 2) ++ [f.kind, f.tag] ++ f.body
  covered ++ le16 (crc covered).toNat

theorem Frame.bytes_eq (f : Frame) : f.bytes = 0xC3 :: f.rest := by
  simp [Frame.bytes, frameBytes, Frame.rest]

theorem Frame.rest_length (f : Frame) : f.rest.length = f.body.length + 6 := by
  simp [Frame.rest, le16]

/-- The length field of any first bytes of a frame (R164). -/
theorem Frame.u16_rest {f : Frame} (hbody : f.body.length ≤ 510) {pre post : List Byte} (h : pre ++ post = f.rest)
    (htwo : 2 ≤ pre.length) : u16 pre 0 = f.body.length + 2 := by
  have hlength := u16_le16 (f.body.length + 2) (by omega)
  rw [← u16_append_left pre post htwo, h, ← hlength]
  rfl

/-- The whole frame: its check code agrees, and it is read as the frame sent (R164, R165). -/
theorem Frame.rest_read {f : Frame} (hbody : f.body.length ≤ 510) : checkAgrees f.rest = true ∧ assembled f.rest = f := by
  have hlength : u16 f.rest 0 = f.body.length + 2 :=
    Frame.u16_rest hbody (List.append_nil _) (by rw [f.rest_length]; omega)
  set covered : List Byte := le16 (f.body.length + 2) ++ [f.kind, f.tag] ++ f.body with hcovered
  have hrest : f.rest = covered ++ le16 (crc covered).toNat := rfl
  have hcount : covered.length = f.body.length + 4 := by simp [hcovered, le16]
  refine ⟨?_, ?_⟩
  · have hcode : u16 f.rest covered.length = (crc covered).toNat := by
      have hfits := u16_le16 (crc covered).toNat (by have := (crc covered).isLt; omega)
      rw [hrest]
      exact (u16_append_right covered _ 0).trans hfits
    have htake : f.rest.take (f.body.length + 4) = covered := by
      rw [hrest, List.take_append_of_le_length (by omega), List.take_of_length_le (by omega)]
    simp only [checkAgrees, hlength, beq_iff_eq]
    rw [htake, ← hcode, hcount]
  · have hbytes : (f.rest.drop 4).take f.body.length = f.body := by
      rw [hrest, List.drop_append_of_le_length (by omega), hcovered]
      exact List.take_left
    rw [assembled, hlength, Nat.add_sub_cancel, hbytes]
    rfl

/-- The effect of bytes taken one after the other. -/
def rxBytes (bytes : List Byte) (o : Result) : Result :=
  bytes.foldl (fun o b => match o with | .next t => exec (.rxByte b) t | o => o) o

theorem rxBytes_cons (b : Byte) (bytes : List Byte) (s : State) :
    rxBytes (b :: bytes) (.next s) = rxBytes bytes (exec (.rxByte b) s) := rfl

theorem rxByte_receiving (s : State) (hhigh : s.resetLow = false) (pre : List Byte) (b : Byte) :
    exec (.rxByte b) (s.receiving pre) = .next ((s.receiving pre).frameByte (pre ++ [b])) :=
  live_high (s.receiving pre) (fun t => t.rxByte b) hhigh

/-- From any place in a frame, its remaining bytes hand it on, by the number of bytes left. -/
theorem rxBytes_receiving (s : State) (hhigh : s.resetLow = false) {f : Frame} (hbody : f.body.length ≤ 510)
    (pre : List Byte) (b : Byte) (post : List Byte) (h : pre ++ b :: post = f.rest) :
    rxBytes (b :: post) (.next (s.receiving pre)) =
      .next (State.goodFrame ((s.receiving pre).setLink { (s.receiving pre).link with receiver := .hunt }) f) := by
  have hlength : pre.length + (post.length + 1) = f.body.length + 6 := by
    rw [← f.rest_length, ← h, List.length_append, List.length_cons]
  have hsplit : (pre ++ [b]) ++ post = f.rest := by rw [← h, List.append_assoc]; rfl
  rw [rxBytes_cons, rxByte_receiving s hhigh]
  induction post generalizing pre b with
  | nil =>
    obtain ⟨hagrees, hframe⟩ := Frame.rest_read hbody
    have hwhole : pre ++ [b] = f.rest := h
    have hcount : u16 f.rest 0 = f.body.length + 2 :=
      Frame.u16_rest hbody (List.append_nil _) (by rw [f.rest_length]; omega)
    rw [State.frameByte_last _ (by rw [hwhole, hcount, f.rest_length]), hwhole, if_pos hagrees, hframe]
    rfl
  | cons c post ih =>
    have hcount (htwo : 2 ≤ (pre ++ [b]).length) : u16 (pre ++ [b]) 0 = f.body.length + 2 := Frame.u16_rest hbody hsplit htwo
    have hmore : (pre ++ [b]).length < u16 (pre ++ [b]) 0 + 4 := by
      by_cases htwo : 2 ≤ (pre ++ [b]).length
      · rw [hcount htwo]
        simp at hlength ⊢
        omega
      · omega
    have hrange (hsecond : (pre ++ [b]).length = 2) : 2 ≤ u16 (pre ++ [b]) 0 ∧ u16 (pre ++ [b]) 0 ≤ 512 := by
      rw [hcount (by omega)]
      omega
    rw [State.frameByte_held _ hmore hrange]
    have hstep : (s.receiving pre).setLink { (s.receiving pre).link with receiver := .inFrame (pre ++ [b]) }
      = s.receiving (pre ++ [b]) := rfl
    rw [hstep, rxBytes_cons, rxByte_receiving s hhigh]
    have hsplit' : (pre ++ [b] ++ [c]) ++ post = f.rest := by rw [← hsplit, List.append_assoc]; rfl
    exact ih (pre ++ [b]) c hsplit (by simp at hlength ⊢; omega) hsplit'

/-- The start byte in HUNT (R166). -/
theorem rxByte_start (s : State) (hhigh : s.resetLow = false) (hhunt : s.link.receiver = .hunt) :
    exec (.rxByte 0xC3) s = .next (s.receiving []) := by
  refine (live_high s (fun t => t.rxByte 0xC3) hhigh).trans (congrArg _ ?_)
  simp only [State.rxByte, State.setLink_link, State.setOut_link, hhunt, Link.huntByte]
  rfl

/-- Settles O58: the start byte, then the bytes after it one by one. -/
theorem receiverAssemblesFrame : Obligations.ReceiverAssemblesFrame := by
  unfold Obligations.ReceiverAssemblesFrame
  refine ⟨fun f => f.bytes_eq, fun s f hhigh hhunt hbody => ?_⟩
  change rxBytes f.bytes (.next s) = _
  rw [f.bytes_eq, rxBytes_cons, rxByte_start s hhigh hhunt]
  cases hrest : f.rest with
  | nil =>
    have hlength := f.rest_length
    simp [hrest] at hlength
  | cons b post => exact rxBytes_receiving s hhigh hbody [] b post hrest.symm

end Sys2Proof.Machine
end

section
/-! PROOFS. The answering side (R171 to R173) and the restarts (R161, R163). -/

namespace Sys2Proof.Machine

open Sys2Proof.Safety

/-! ### The answering side -/

/-- A command of a kind, known or not, is the good frame of that kind (R167). -/
theorem exec_of_kind {kind tag : Byte} {body : List Byte} {c : Instr}
    (h : (kind, c) ∈ requests tag body ∨ c = .unknownKind kind tag body) (s : State) :
    exec c s = s.request kind tag body := by
  rcases h with hmem | rfl
  · obtain ⟨r, rfl, rfl⟩ := exists_kind_of_mem_requests hmem
    exact exec_requestInstr r tag body s
  · rfl

/-- A good frame is dispatched at once with the answering side IDLE (R171). -/
theorem request_idle (s : State) (kind tag : Byte) (body : List Byte) (hhigh : s.resetLow = false)
    (hidle : s.link.answering = .idle) :
    s.request kind tag body = .next ((heard s).dispatch { kind := kind, tag := tag, body := body }) := by
  refine (live_high s (fun t => t.goodFrame { kind := kind, tag := tag, body := body }) hhigh).trans (congrArg _ ?_)
  simp only [State.goodFrame, State.handFrame, State.setLine_link, State.setOut_link, hidle]
  rfl

/-- The reply to RESTART that lets the part restart (R161). -/
theorem Reply.isRestart_iff (r : Reply) : r.isRestart = true ↔ r.kind = 0x86 ∧ r.status = .ok := by
  have hkind : replyKind (kindByte .restart) = 0x86 := replyKind_kindByte .restart
  simp [Reply.isRestart, hkind]

/-- The end of a reply, for each reply and slot (R171, R161). -/
theorem replySent_of_sending (s : State) (x : Straps) {r : Reply} {n : Nat} (hhigh : s.resetLow = false)
    (hsending : s.link.answering = .sending r n) : exec (.replySent x) s = .next
      (if r.kind = 0x86 ∧ r.status = .ok then (s.setOut []).restart .restartRequest x s.die.contact
      else
        match s.link.slot with
        | none => (s.setOut []).setLink { s.link with answering := .idle }
        | some f => ((s.setOut []).setLink { s.link with slot := none, answering := .idle }).dispatch f) := by
  refine (live_high s (fun t => t.replySent x) hhigh).trans (congrArg _ ?_)
  simp only [State.replySent, State.setOut_link, hsending, Reply.isRestart_iff]
  cases s.link.slot <;> rfl

/-- Settles O60: a frame by the answering side and its slot, the end of a reply by what it was and what waits. -/
theorem answeringSideTakes : Obligations.AnsweringSideTakes := by
  unfold Obligations.AnsweringSideTakes
  refine fun s hhigh => ⟨fun kind tag body c hc => ?_, fun kind tag body hidle hunknown => ?_,
    fun r n kind tag body c hsending hc => ⟨fun hslot => ?_, fun f hslot => ?_⟩, fun x hidle => ?_,
    fun x r n hsending hplain hslot => ?_, fun x r n f hsending hplain hslot => ?_, fun kind tag body c hidle hc => ?_,
    fun x r n kind tag body c hsending hplain hslot hstopped hc => ?_⟩
  · rw [exec_of_kind hc]
    exact live_high s (fun t => t.goodFrame { kind := kind, tag := tag, body := body }) hhigh
  · rw [exec_of_kind (.inr rfl), request_idle s kind tag body hhigh hidle]
    have hanswer : answer { kind := kind, tag := tag, body := body } (heard s) = (heard s).refuse .unknownKind := by
      rw [answer, hunknown]
    have hmode : (heard s).line.mode = s.line.mode := s.line.goodFrame_mode
    rw [State.dispatch, hanswer, replyTo]
    simp only [State.refuse, hmode]
    rfl
  · rw [exec_of_kind hc]
    exact request_waits kind tag body s r n hhigh hsending hslot
  · rw [exec_of_kind hc]
    exact request_dropped kind tag body s r n f hhigh hsending hslot
  · refine (live_high s (fun t => t.replySent x) hhigh).trans (congrArg _ ?_)
    simp only [State.replySent, State.setOut_link, hidle]
    rfl
  · rw [replySent_of_sending s x hhigh hsending, if_neg hplain, hslot]
    rfl
  · rw [replySent_of_sending s x hhigh hsending, if_neg hplain, hslot]
    rfl
  · rw [exec_of_kind hc, request_idle s kind tag body hhigh hidle]
  · rw [replySent_of_sending s x hhigh hsending, if_neg hplain, hslot, exec_of_kind (.inl hc),
      request_idle { s with link := { s.link with answering := .idle, slot := none } } kind tag body hhigh rfl]
    have hheard : heard { s with link := { s.link with answering := .idle, slot := none } }
        = (s.setOut []).setLink { s.link with slot := none, answering := .idle } := by
      rw [heard, s.line.goodFrame_stopped hstopped]
      rfl
    rw [hheard]

/-! ### The restarts -/

/-- The link rate by the two straps (R163). -/
theorem rateOf_eq (x : Straps) : rateOf x =
    if x.rate1 then (if x.rate0 then .baud460800 else .baud230400)
    else if x.rate0 then .baud115200 else .baud57600 := by
  obtain ⟨rate0, rate1⟩ := x
  cases rate0 <;> cases rate1 <;> rfl

/-- With RESET_N low a command that is no restart and no contact does nothing (R161). -/
theorem exec_of_low (c : Instr) (s : State) (hlow : s.resetLow = true) (hpower : ∀ x contact low, c ≠ .powerOn x contact low)
    (hrelease : ∀ x, c ≠ .resetNRelease x) (hcloses : c ≠ .diePresentCloses) (hopens : c ≠ .diePresentOpens) :
    exec c s = .next (s.setOut []) := by
  cases c with
  | powerOn x contact low => exact absurd rfl (hpower x contact low)
  | resetNRelease x => exact absurd rfl (hrelease x)
  | diePresentCloses => exact absurd rfl hcloses
  | diePresentOpens => exact absurd rfl hopens
  | _ => exact congrArg Host.Outcome.next (if_pos hlow)

/-- Settles O57: each restart by its values, and what is taken while RESET_N is low. -/
theorem restartsTaken : Obligations.RestartsTaken := by
  unfold Obligations.RestartsTaken
  intro rate fresh
  have hrate (x : Straps) : rateOf x = rate x := rateOf_eq x
  have hrestart (s : State) (cause : StartCause) (x : Straps) (contact : Bool) :
      s.restart cause x contact = fresh s cause (rate x) contact false := by
    rw [← hrate]
    cases contact <;> rfl
  have hheld (s : State) (cause : StartCause) (r : Rate) (contact : Bool) :
      s.restartValues cause r contact true = fresh s cause r contact true := by
    cases contact <;> rfl
  refine ⟨fun s x contact => ?_, fun s x contact => ?_, fun s hhigh => ?_, fun s x hlow => ?_, fun s x hhigh => ?_,
    fun s tag body h => ?_, fun s x r n hhigh hsending hkind hstatus => ?_,
    fun c s hlow hpower hrelease hcloses hopens => exec_of_low c s hlow hpower hrelease hcloses hopens,
    fun s hlow => ⟨?_, ?_⟩⟩
  · change Host.Outcome.next (s.restart .powerOn x contact) = _
    rw [hrestart]
  · change Host.Outcome.next (s.restartValues .powerOn (rateOf x) contact true) = _
    rw [hheld, hrate]
  · change Host.Outcome.next (if s.resetLow then _ else _) = _
    rw [if_neg (by simp [hhigh]), hheld]
  · change Host.Outcome.next (if s.resetLow then _ else _) = _
    rw [if_pos hlow, hrestart]
  · exact congrArg Host.Outcome.next (if_neg (by simp [hhigh]))
  · refine (request_replied .restart tag body s h).trans (congrArg _ ?_)
    change (reqRestart body (heard s)).replied 0x06 tag = _
    rw [reqRestart, Response.replied_ite, Response.replied_refuse, Response.replied_accept]
  · rw [replySent_of_sending s x hhigh hsending, if_pos ⟨hkind, hstatus⟩, hrestart]
    rfl
  · exact if_pos hlow
  · exact if_pos hlow

end Sys2Proof.Machine
end

section
/-! PROOFS. A spoil up to the Wire Feed, in one equation (R15, R74 to R76, R128, R137, R146). -/

namespace Sys2Proof.Machine

open Sys2Proof.Safety

/-- The Drill Controller after a spoil of a book (R128). -/
def Drill.spoiled (d : Drill) (id : Nat) : Drill :=
  if d.board.any fun b => b.book == id then
    match d.mode, d.hole with
    | .drilling, .running _ => { d with mode := .aborting }
    | .suspendPending _, _ => { d with mode := .aborting }
    | .suspended _, _ => d.toIdle
    | _, _ => d
  else d

/-- A SUSPENDED board of the book, which its spoil finishes at once (R128). -/
def Drill.freed (d : Drill) (id : Nat) : Bool :=
  (d.board.any fun b => b.book == id) && match d.mode with | .suspended _ => true | _ => false

theorem Drill.freed_iff (d : Drill) (id : Nat) :
    d.freed id = true ↔ (∃ b, d.board = some b ∧ b.book = id) ∧ ∃ o, d.mode = .suspended o := by
  have hboard : (d.board.any fun b => b.book == id) = true ↔ ∃ b, d.board = some b ∧ b.book = id := by
    cases d.board <;> simp
  unfold Drill.freed
  cases d.mode <;> simp [hboard]

/-- The spoil at the DRILL station: the controller, and the entry of a freed board (R71, R128). -/
theorem State.drillSpoil_eq (s : State) (id : Nat) : s.drillSpoil id =
    { s with
      track := if s.drill.freed id then s.track.boardBack else s.track
      drill := s.drill.spoiled id } := by
  cases hboard : s.drill.board.any fun b => b.book == id with
  | false => simp only [State.drillSpoil, Drill.spoiled, Drill.freed, hboard]; rfl
  | true =>
    cases hmode : s.drill.mode with
    | drilling =>
      cases hhole : s.drill.hole <;> simp only [State.drillSpoil, Drill.spoiled, Drill.freed, hboard, hmode, hhole] <;> rfl
    | idle | suspendPending | suspended | aborting =>
      simp only [State.drillSpoil, Drill.spoiled, Drill.freed, hboard, hmode]; rfl

/-- A spoil of a held book in two parts: at every holder but the Wire Feed, then there. -/
theorem State.spoil_of_held (s : State) {id : Nat} {b : Book} (hbook : s.book? id = some b) (hsound : b.state ≠ .spoiled)
    (r : Reason) (q v : Nat) : s.spoil id r q v = ((s.spoilBeforeWire id r q v).wireSpoil id).sweep := by
  rw [State.spoil, hbook]
  exact if_neg hsound

/-- The record of the spoiled book: SPOILED with the reason, and on the tray its stack dumped (R15, R137). -/
def Book.spoilOn (onTray : Bool) (r : Reason) (b : Book) : Book := if onTray then (b.spoil r).dumpStack else b.spoil r

theorem Book.spoilOn_id (onTray : Bool) (r : Reason) (b : Book) : (b.spoilOn onTray r).id = b.id := by
  cases onTray <;> rfl

theorem Book.spoilOn_state (onTray : Bool) (r : Reason) (b : Book) : (b.spoilOn onTray r).state = .spoiled := by
  cases onTray <;> rfl

theorem changeBook_changeBook (books : List Book) (id : Nat) (f g : Book → Book) (hf : ∀ b, (f b).id = b.id) :
    changeBook id g (changeBook id f books) = changeBook id (fun b => g (f b)) books :=
  map_changes books id f g hf

/-- A spoil at the Stacker, field by field (R137, R146). -/
theorem State.traySpoil_eq (s : State) (id : Nat) : s.traySpoil id =
    { s with
      books := if s.tray.book? = some id then changeBook id Book.dumpStack s.books else s.books
      tray := if s.tray.book? = some id then .empty else s.tray
      closer := if s.tray.book? = some id then { s.closer with hookWait := false } else s.closer
      out := s.out ++ if s.tray.book? = some id then [.flap false] else [] } := by
  unfold State.traySpoil
  split
  · rfl
  · rw [List.append_nil]

/-- The record of the spoiled book, marked and then dumped with the tray (R15, R137). -/
theorem changeBook_spoilOn (s : State) (id : Nat) (r : Reason) :
    (if s.tray.book? = some id then changeBook id Book.dumpStack (changeBook id (Book.spoil r) s.books)
      else changeBook id (Book.spoil r) s.books) = changeBook id (Book.spoilOn (s.tray.book? == some id) r) s.books := by
  split
  · next htray =>
    rw [changeBook_changeBook s.books id (Book.spoil r) _ fun _ => rfl, beq_iff_eq.mpr htray]
    rfl
  · next htray =>
    rw [beq_eq_false_iff_ne.mpr htray]
    rfl

/-- A spoil before the Wire Feed, field by field. -/
theorem State.spoilBeforeWire_eq (s : State) (id : Nat) (r : Reason) (q v : Nat) : s.spoilBeforeWire id r q v =
    { s with
      books := changeBook id (Book.spoilOn (s.tray.book? == some id) r) s.books
      notices := entered s.notices [spoiledEvent r id q v]
      track := if s.drill.freed id then (s.track.condemn id).boardBack else s.track.condemn id
      drill := s.drill.spoiled id
      tray := if s.tray.book? = some id then .empty else s.tray
      closer := if s.tray.book? = some id then { s.closer with hookWait := false } else s.closer
      out := s.out ++ if s.tray.book? = some id then [.flap false] else [] } := by
  have hmarked : (((s.updateBook id (Book.spoil r)).push (spoiledEvent r id q v)).setTrack (s.track.condemn id)).drillSpoil id =
      { s with
        books := changeBook id (Book.spoil r) s.books
        notices := entered s.notices [spoiledEvent r id q v]
        track := if s.drill.freed id then (s.track.condemn id).boardBack else s.track.condemn id
        drill := s.drill.spoiled id } := by
    rw [State.drillSpoil_eq, State.push_eq_entered]
    rfl
  rw [State.spoilBeforeWire, hmarked, State.traySpoil_eq, ← changeBook_spoilOn]

end Sys2Proof.Machine
end

section
/-! PROOFS. STOP and the purge of the books (R20, R79, R130, R148, R155). -/

namespace Sys2Proof.Machine

open Sys2Proof.Safety

/-! ### The purge of one book -/

/-- A part at rest, as STOP leaves its blocks before the purge: no place, board, cut or hook wait is held. -/
structure State.AtRest (s : State) : Prop where
  track : s.track = Track.cleared
  board : s.drill.board = none
  feeder : s.wire.feeder = .idle
  hookWait : s.closer.hookWait = false

/-- At rest a SPOILED record is removable unless it is the tray book or the book being closed (R19). -/
theorem State.AtRest.removable {s : State} (h : s.AtRest) (b : Book) : s.removable b =
    (b.state == .spoiled && !(s.tray.book? == some b.id) && !(s.closer.mode.book? == some b.id)) := by
  simp [State.removable, h.track, h.feeder, Track.cleared, Track.holdsBook, Track.sheets, Track.permitFor, Feeder.book?]

/-- What the purge of books does at rest: their records go, each with its BOOK_SPOILED, with FLAP for the tray book. -/
structure Purges (ids : List Nat) (s t : State) : Prop where
  frame : t = { s with
    books := t.books
    tray := if s.tray.book?.any (· ∈ ids) then .empty else s.tray
    out := s.out ++ if s.tray.book?.any (· ∈ ids) then [.flap false] else []
    notices := entered s.notices (ids.map (spoiledEvent .purged · 0 0)) }
  order : t.books.Sublist s.books
  gone : ∀ x ∈ t.books, x.id ∉ ids
  stays : ∀ x ∈ s.books, x.state ≠ .spoiled → x.id ∉ ids → x ∈ t.books

/-- A record that is changed and then dropped is dropped alone. -/
theorem filter_changeBook {id : Nat} {f : Book → Book} {p : Book → Bool} (books : List Book)
    (hp : ∀ x, x.id = id → p (f x) = false) :
    (changeBook id f books).filter p = books.filter fun x => !(x.id == id) && p x := by
  induction books with
  | nil => rfl
  | cons b books ih =>
    have hcons : changeBook id f (b :: books) = (if b.id = id then f b else b) :: changeBook id f books := rfl
    rw [hcons, List.filter_cons, List.filter_cons, ih]
    by_cases hb : b.id = id
    · simp [hb, hp b hb]
    · simp [hb]

/-- The purge of one book at rest that is not being closed. -/
theorem State.AtRest.spoil_purges {s : State} {id : Nat} (h : s.AtRest) {b : Book} (hbook : s.book? id = some b)
    (hsound : b.state ≠ .spoiled) (hcloser : s.closer.mode.book? ≠ some id) : Purges [id] s (s.spoil id .purged 0 0) := by
  set u := s.spoilBeforeWire id .purged 0 0 with hu
  have heq := s.spoilBeforeWire_eq id .purged 0 0
  have hboard : s.drill.spoiled id = s.drill ∧ s.drill.freed id = false := by
    simp [Drill.spoiled, Drill.freed, h.board]
  have htrack : s.track.condemn id = s.track := by rw [h.track]; rfl
  have hclosed : (if s.tray.book? = some id then { s.closer with hookWait := false } else s.closer) = s.closer := by
    rw [← h.hookWait, ite_self]
  rw [hboard.1, hboard.2, htrack, hclosed] at heq
  have hrest : u.AtRest := by
    rw [hu, heq]
    exact ⟨h.track, h.board, h.feeder, h.hookWait⟩
  have hquiet : u.wireSpoil id = u := by simp [State.wireSpoil, hrest.feeder]
  have hspoil : s.spoil id .purged 0 0 = u.sweep := by rw [s.spoil_of_held hbook hsound, ← hu, hquiet]
  have htray : u.tray = if s.tray.book? = some id then .empty else s.tray := by rw [hu, heq]
  have hcloses : u.closer = s.closer := by rw [hu, heq]
  have hgone (x : Book) (hx : x.id = id) : (!(u.removable (x.spoilOn (s.tray.book? == some id) .purged))) = false := by
    have hleft : u.tray.book? ≠ some id := by
      rw [htray]
      split
      · simp [Tray.book?]
      · assumption
    rw [hrest.removable, Book.spoilOn_state, Book.spoilOn_id, hx, hcloses, beq_eq_false_iff_ne.mpr hleft,
      beq_eq_false_iff_ne.mpr hcloser]
    rfl
  have hchanged : u.books = changeBook id (Book.spoilOn (s.tray.book? == some id) .purged) s.books := by rw [hu, heq]
  have hbooks : u.sweep.books = s.books.filter fun x => !(x.id == id) && !(u.removable x) := by
    rw [← filter_changeBook s.books hgone, ← hchanged]
    rfl
  rw [hspoil]
  refine ⟨?_, ?_, fun x hx => ?_, fun x hx hstate hid => ?_⟩
  · have hany : s.tray.book?.any (· ∈ [id]) = decide (s.tray.book? = some id) := by
      cases s.tray.book? <;> simp
    simp only [hany, decide_eq_true_eq]
    rw [hu, heq]
    rfl
  · rw [hbooks]
    exact List.filter_sublist
  · rw [hbooks] at hx
    simpa using (Bool.and_eq_true_iff.mp (List.mem_filter.mp hx).2).1
  · have hnot : u.removable x = false := by simp [hrest.removable, hstate]
    rw [hbooks]
    exact List.mem_filter.mpr ⟨hx, by simpa [hnot] using hid⟩

theorem Purges.nil (s : State) : Purges [] s s := by
  refine ⟨?_, List.Sublist.refl _, fun _ _ => List.not_mem_nil, fun _ hx _ _ => hx⟩
  simp [entered_nil]

theorem Purges.closer {ids : List Nat} {s t : State} (h : Purges ids s t) : t.closer = s.closer := by rw [h.frame]

theorem Purges.atRest {ids : List Nat} {s t : State} (h : Purges ids s t) (hs : s.AtRest) : t.AtRest := by
  rw [h.frame]
  exact ⟨hs.track, hs.board, hs.feeder, hs.hookWait⟩

theorem Purges.cons {ids : List Nat} {id : Nat} {s t u : State} (h : Purges [id] s t) (h' : Purges ids t u) :
    Purges (id :: ids) s u := by
  refine ⟨?_, h'.order.trans h.order, fun x hx hid => ?_, fun x hx hstate hid => ?_⟩
  · have hsplit : s.tray.book?.any (· ∈ id :: ids) = (s.tray.book?.any (· ∈ [id]) || s.tray.book?.any (· ∈ ids)) := by
      cases s.tray.book? <;> simp
    rw [h'.frame, hsplit]
    cases hany : s.tray.book?.any (· ∈ [id]) with
    | true =>
      have ht := h.frame
      rw [hany, if_pos rfl, if_pos rfl] at ht
      rw [ht]
      simp [Tray.book?, entered_append]
    | false =>
      have ht := h.frame
      rw [hany, if_neg Bool.false_ne_true, if_neg Bool.false_ne_true, List.append_nil] at ht
      rw [ht]
      simp [entered_append]
  · rcases List.mem_cons.mp hid with hhead | htail
    · exact h.gone x (h'.order.subset hx) (by simp [hhead])
    · exact h'.gone x hx htail
  · obtain ⟨hhead, htail⟩ := not_or.mp (mt List.mem_cons.mpr hid)
    exact h'.stays x (h.stays x hx hstate (by simpa using hhead)) hstate htail

/-- The purge of books at rest, none of them being closed. -/
theorem State.AtRest.purges {ids : List Nat} {s : State} (h : s.AtRest) (hdistinct : BooksDistinct s)
    (hheld : ∀ id ∈ ids, ∃ b ∈ s.books, b.id = id ∧ b.state ≠ .spoiled) (hids : ids.Nodup)
    (hcloser : ∀ id ∈ ids, s.closer.mode.book? ≠ some id) :
    Purges ids s (ids.foldl (fun t id => t.spoil id .purged 0 0) s) := by
  induction ids generalizing s with
  | nil => exact .nil s
  | cons id ids ih =>
    obtain ⟨b, hb, rfl, hsound⟩ := hheld id List.mem_cons_self
    have hone := h.spoil_purges (((booksDistinct_iff s).mp hdistinct).book? hb) hsound (hcloser _ List.mem_cons_self)
    obtain ⟨hnot, hrest⟩ := List.nodup_cons.mp hids
    refine hone.cons (ih (hone.atRest h) ?_ (fun i hi => ?_) hrest (fun i hi => ?_))
    · exact (booksDistinct_iff _).mpr (((booksDistinct_iff s).mp hdistinct).sublist (hone.order.map _))
    · obtain ⟨c, hc, rfl, hcsound⟩ := hheld i (List.mem_cons_of_mem _ hi)
      have hne : c.id ≠ b.id := fun heq => hnot (heq ▸ hi)
      exact ⟨c, hone.stays c hc hcsound (by simpa using hne), rfl, hcsound⟩
    · rw [hone.closer]
      exact hcloser i (List.mem_cons_of_mem _ hi)

/-! ### STOP -/

theorem Closer.stopped_hookWait (c : Closer) : c.stopped.hookWait = false := by
  unfold Closer.stopped
  split <;> rfl

theorem CloserMode.timedOutFor_iff (m : CloserMode) (id : Nat) :
    m.timedOutFor id = true ↔ ∃ l, m = .closing id l .timedOut := by
  unfold CloserMode.timedOutFor
  split
  · next book l =>
    simp
  · next h =>
    simp only [Bool.false_eq_true, false_iff]
    rintro ⟨l, rfl⟩
    exact h id l rfl

/-- A close that has run out its limit is given up, any other stays (R148). -/
theorem Closer.stopped_mode (c : Closer) :
    ((∃ id, c.mode.timedOutFor id = true) → c.stopped.mode = .idle)
    ∧ ((∀ id, c.mode.timedOutFor id = false) → c.stopped.mode = c.mode) := by
  unfold Closer.stopped
  split
  · next id l hmode => exact ⟨fun _ => rfl, fun hnone => by simpa [hmode, CloserMode.timedOutFor] using hnone id⟩
  · next hother =>
    refine ⟨fun ⟨id, hid⟩ => ?_, fun _ => rfl⟩
    obtain ⟨l, hmode⟩ := (c.mode.timedOutFor_iff id).mp hid
    exact absurd hmode (hother id l)

/-- The book being closed after STOP is one whose close still runs (R148). -/
theorem Closer.stopped_book? {c : Closer} {id : Nat} (h : c.stopped.mode.book? = some id) :
    c.mode.book? = some id ∧ c.mode.timedOutFor id = false := by
  by_cases hany : ∃ id, c.mode.timedOutFor id = true
  · rw [c.stopped_mode.1 hany] at h
    cases h
  · have hnone (i : Nat) : c.mode.timedOutFor i = false := Bool.eq_false_iff.mpr fun hi => hany ⟨i, hi⟩
    exact ⟨c.stopped_mode.2 hnone ▸ h, hnone id⟩

theorem mem_purged {s : State} {id : Nat} (h : id ∈ s.purged) : ∃ b ∈ s.books, b.id = id
    ∧ (b.state = .feeding ∨ b.state = .fed ∨ b.state = .stacked ∨ b.state = .closing ∧ s.closer.mode.timedOutFor id = true) := by
  obtain ⟨b, hb, rfl⟩ := List.mem_map.mp h
  obtain ⟨hmem, hstate⟩ := List.mem_filter.mp hb
  refine ⟨b, hmem, rfl, ?_⟩
  simpa [or_assoc] using hstate

/-- The purge of STOP, as one purge of the books that are not kept (R20, R155). -/
theorem State.stopLine_purges (s : State) (hdistinct : BooksDistinct s)
    (hclosing : ∀ b ∈ s.books, s.closer.mode.book? = some b.id → b.state = .closing) :
    Purges s.purged (s.stopBlocks.setCloser s.closer.stopped)
      (s.purged.foldl (fun t id => t.spoil id .purged 0 0) (s.stopBlocks.setCloser s.closer.stopped)) := by
  have hatRest : (s.stopBlocks.setCloser s.closer.stopped).AtRest := ⟨rfl, rfl, rfl, s.closer.stopped_hookWait⟩
  refine hatRest.purges (by simpa [BooksDistinct] using hdistinct) (fun id hid => ?_) ?_ (fun id hid hheld => ?_)
  · obtain ⟨b, hb, hid, hstate⟩ := mem_purged hid
    refine ⟨b, by simpa using hb, hid, fun hspoiled => ?_⟩
    simp [hspoiled] at hstate
  · exact (((booksDistinct_iff s).mp hdistinct).sublist (List.filter_sublist.map _)).2.1
  · obtain ⟨hbook, hruns⟩ := Closer.stopped_book? hheld
    obtain ⟨b, hb, rfl, hstate⟩ := mem_purged hid
    have hclose := hclosing b hb hbook
    simp [hclose, hruns] at hstate

section
variable (s : State)

/-- The state after STOP's purge, before the tray is emptied and the line moves (R155). -/
def State.purgedState : State :=
  s.purged.foldl (fun t id => t.spoil id .purged 0 0) (s.stopBlocks.setCloser s.closer.stopped)

theorem State.stopLine_eq : s.stopLine = (s.purgedState.setTray .empty).sweep.lineTo s.restMode := rfl

theorem State.stopLine_books : s.stopLine.books = (s.purgedState.setTray .empty).sweep.books := by simp [State.stopLine_eq]

/-- Of the held books those FEEDING, FED, STACKED, or CLOSING with the limit run out are purged (R20). -/
theorem State.mem_purged_iff (hdistinct : BooksDistinct s) {b : Book} (hb : b ∈ s.books) : b.id ∈ s.purged ↔
    b.state = .feeding ∨ b.state = .fed ∨ b.state = .stacked ∨ b.state = .closing ∧ s.closer.mode.timedOutFor b.id = true := by
  constructor
  · intro hid
    obtain ⟨c, hc, hcid, hstate⟩ := mem_purged hid
    obtain rfl := ((booksDistinct_iff s).mp hdistinct).eq hc hb hcid
    exact hstate
  · intro hstate
    exact List.mem_map.mpr ⟨b, List.mem_filter.mpr ⟨hb, by simpa [or_assoc] using hstate⟩, rfl⟩

/-- The tray book is purged. -/
theorem State.tray_purged_iff : s.tray.book?.any (· ∈ s.purged) = true ↔ ∃ b ∈ s.books, s.tray.book? = some b.id
    ∧ (b.state == .feeding || b.state == .fed || b.state == .stacked
      || (b.state == .closing && s.closer.mode.timedOutFor b.id)) = true := by
  cases htray : s.tray.book? with
  | none => simp
  | some id =>
    rw [Option.any_some, decide_eq_true_iff]
    simp only [Option.some.injEq, State.purged, List.mem_map, List.mem_filter]
    exact ⟨fun ⟨b, ⟨hb, hstate⟩, hid⟩ => ⟨b, hb, hid.symm, hstate⟩, fun ⟨b, hb, hid, hstate⟩ => ⟨b, ⟨hb, hstate⟩, hid.symm⟩⟩

variable (hdistinct : BooksDistinct s) (hclosing : ∀ b ∈ s.books, s.closer.mode.book? = some b.id → b.state = .closing)
include hdistinct hclosing

/-- The blocks but books and Closer after STOP (R44, R148, R155). -/
theorem State.stopLine_blocks : s.stopLine.arrival = { s.arrival with window := .closed, conversion := none }
    ∧ s.stopLine.tray = .empty ∧ s.stopLine.wire = { s.wire with feeder := .idle }
    ∧ s.stopLine.closer = s.closer.stopped := by
  have hframe := (s.stopLine_purges hdistinct hclosing).frame
  have harrival : s.purgedState.arrival = { s.arrival with window := .closed, conversion := none } :=
    congrArg State.arrival hframe
  have hwire : s.purgedState.wire = { s.wire with feeder := .idle } := congrArg State.wire hframe
  have hcloser : s.purgedState.closer = s.closer.stopped := congrArg State.closer hframe
  refine ⟨?_, ?_, ?_, ?_⟩
  · simp [State.stopLine_eq, harrival]
  · simp [State.stopLine_eq]
  · simp [State.stopLine_eq, hwire]
  · simp [State.stopLine_eq, hcloser]

/-- PIN_LOAD of the hold with clear, and FLAP where the tray book is purged (R87, R137). -/
theorem State.stopLine_out : s.stopLine.out =
    s.out ++ .pinLoad [] :: if s.tray.book?.any (· ∈ s.purged) then [.flap false] else [] := by
  have hout : s.purgedState.out = (s.out ++ [.pinLoad []]) ++ if s.tray.book?.any (· ∈ s.purged) then [.flap false] else [] :=
    congrArg State.out (s.stopLine_purges hdistinct hclosing).frame
  simp [State.stopLine_eq, hout]

/-- BOOK_SPOILED of each purged book in turn, LINE_STATE last (R155). -/
theorem State.stopLine_notices : s.stopLine.notices = entered s.notices
    (s.purged.map (spoiledEvent .purged · 0 0)
      ++ if s.line.mode = s.restMode then [] else [lineStateEvent s.line.mode s.restMode]) := by
  have hframe := (s.stopLine_purges hdistinct hclosing).frame
  have hnotices : s.purgedState.notices = entered s.notices (s.purged.map (spoiledEvent .purged · 0 0)) :=
    congrArg State.notices hframe
  have hmode : s.purgedState.line.mode = s.line.mode := congrArg (·.line.mode) hframe
  have hpurged : ((s.purgedState.setTray .empty).sweep).notices = s.purgedState.notices := by simp
  have hline : ((s.purgedState.setTray .empty).sweep).line.mode = s.line.mode := by simp [hmode]
  rw [s.stopLine_eq]
  split
  · next hrest => rw [State.lineTo, if_pos (hline.trans hrest), hpurged, hnotices, List.append_nil]
  · next hrest => rw [State.lineTo_of_ne _ (by rwa [hline]), hline, hpurged, hnotices, entered_append]

/-- The books that stay keep their order (R20). -/
theorem State.stopLine_books_sublist : s.stopLine.books.Sublist s.books := by
  rw [s.stopLine_books]
  exact List.filter_sublist.trans (s.stopLine_purges hdistinct hclosing).order

/-- The books that stay: the QUEUED ones, and one CLOSING whose close still runs (R20, R148). -/
theorem State.mem_stopLine_books (b : Book) : b ∈ s.stopLine.books ↔
    b ∈ s.books ∧ (b.state = .queued ∨ b.state = .closing ∧ s.closer.mode.timedOutFor b.id = false) := by
  have hpurges := s.stopLine_purges hdistinct hclosing
  have hatRest : (s.purgedState.setTray .empty).AtRest := by
    obtain ⟨htrack, hboard, hfeeder, hwait⟩ := hpurges.atRest (s := s.stopBlocks.setCloser s.closer.stopped)
      ⟨rfl, rfl, rfl, s.closer.stopped_hookWait⟩
    exact ⟨htrack, hboard, hfeeder, hwait⟩
  have hcloser : (s.purgedState.setTray .empty).closer = s.closer.stopped := congrArg State.closer hpurges.frame
  rw [s.stopLine_books, State.mem_sweep, hatRest.removable, hcloser]
  constructor
  · rintro ⟨hmem, hkept⟩
    have hb : b ∈ s.books := hpurges.order.subset hmem
    have hnot := mt (s.mem_purged_iff hdistinct hb).mpr (hpurges.gone b hmem)
    refine ⟨hb, ?_⟩
    cases hstate : b.state with
    | queued => exact .inl rfl
    | closing => exact .inr ⟨rfl, by simpa [hstate] using hnot⟩
    | feeding | fed | stacked => simp [hstate] at hnot
    | spoiled =>
      have hclose : s.closer.stopped.mode.book? = some b.id := by simpa [hstate, Tray.book?] using hkept
      have hclosed := hclosing b hb (Closer.stopped_book? hclose).1
      rw [hstate] at hclosed
      cases hclosed
  · rintro ⟨hb, hstate⟩
    have hsound : b.state ≠ .spoiled := by
      rintro hspoiled
      simp [hspoiled] at hstate
    refine ⟨hpurges.stays b hb hsound fun hid => ?_, by simp [hsound]⟩
    rcases hstate with hqueued | ⟨hclose, hruns⟩
    · simpa [hqueued] using (s.mem_purged_iff hdistinct hb).mp hid
    · simpa [hclose, hruns] using (s.mem_purged_iff hdistinct hb).mp hid

end

/-- Settles O53: STOP of the state the request is heard in, block by block. -/
theorem stopPurges : Obligations.StopPurges := by
  unfold Obligations.StopPurges
  intro s tag hattends hdistinct hclosing timedOut purged rest
  obtain ⟨timer, hline⟩ := s.line.goodFrame_timer
  obtain ⟨hstopLine, hcycle⟩ := (heard s).stopLine_line_cycle
  obtain ⟨htrack, hdrill⟩ := (heard s).stopLine_track
  obtain ⟨harrival, htray, hwire, hcloser⟩ := (heard s).stopLine_blocks hdistinct hclosing
  obtain ⟨hpending, hdraws, hlow, hlink, hformats, hdie, hsetpoints⟩ := (heard s).stopLine_frame
  have hout := (heard s).stopLine_out hdistinct hclosing
  have hnotices := (heard s).stopLine_notices hdistinct hclosing
  have htimed (id : Nat) : timedOut id ↔ s.closer.mode.timedOutFor id = true := (s.closer.mode.timedOutFor_iff id).symm
  have hmode : (heard s).line.mode = s.line.mode := s.line.goodFrame_mode
  refine ⟨fun body hbody => ?_, (heard s).stopLine, ?_, ?_⟩
  · refine (request_replied .stop tag body s hattends).trans (congrArg _ ?_)
    change (reqStop body (heard s)).replied 0x05 tag = _
    rw [reqStop, if_pos (by simpa using hbody)]
    rfl
  · exact request_replied .stop tag [] s hattends
  refine ⟨?_, ?_, htrack, harrival, hdrill, htray, hwire, fun id hid => ?_, fun hnone => ?_, ?_, ?_, fun b => ?_,
    ((heard s).stopLine_books_sublist hdistinct hclosing).map _, ⟨(heard s).purged.map (spoiledEvent .purged · 0 0), ?_, ?_, ?_⟩,
    hformats, hdie, hlink, hsetpoints, hdraws, hpending, hlow⟩
  · rw [hstopLine, heard, hline]
    rfl
  · rw [hcycle, Cycle.activate_eq]
    rfl
  · rw [hcloser]
    exact s.closer.stopped_mode.1 ⟨id, (htimed id).mp hid⟩
  · rw [hcloser]
    exact s.closer.stopped_mode.2 fun id => Bool.eq_false_iff.mpr (mt (htimed id).mpr (hnone id))
  · rw [hcloser]
    exact s.closer.stopped_hookWait
  · refine hout.trans (congrArg (Output.pinLoad [] :: ·) (if_congr ?_ rfl rfl))
    exact State.tray_purged_iff (heard s)
  · rw [(heard s).mem_stopLine_books hdistinct hclosing, htimed, Bool.not_eq_true]
    rfl
  · rw [hnotices, hmode]
    rfl
  · rw [List.map_map]
    exact List.map_id _
  · intro e he
    obtain ⟨id, -, rfl⟩ := List.mem_map.mp he
    exact ⟨rfl, rfl, rfl, rfl⟩

end Sys2Proof.Machine
end

section
/-! PROOFS. A spoil, with all that it leaves (R15 to R19, R73 to R76, R128, R137, R142, R146). -/

namespace Sys2Proof.Machine

open Sys2Proof.Safety

/-! ### The spoil at the Wire Feed -/

/-- The feeder waits or is ready for the book (R142). -/
def Wire.Serves (w : Wire) (id : Nat) : Prop := w.feeder = .waitingWire id ∨ ∃ n, w.feeder = .cutReady id n

/-- The book fields, the wire, wire notices and cut commands are all that a step at the Wire Feed touches (R139, R142). -/
structure WireTouched (s t : State) : Prop where
  frame : t = { s with books := t.books, wire := t.wire, out := t.out, notices := t.notices }
  out : ∃ cuts, t.out = s.out ++ cuts ∧ ∀ o ∈ cuts, ∃ n hook, o = .wireCut n hook
  notices : ∃ l, t.notices = entered s.notices l ∧ ∀ e ∈ l, e.kind = .wireLow ∨ e.kind = .wireOut

section
variable {s t u : State}

theorem WireTouched.refl (s : State) : WireTouched s s :=
  ⟨rfl, ⟨[], by simp⟩, ⟨[], by simp [entered_nil]⟩⟩

theorem WireTouched.trans (h : WireTouched s t) (h' : WireTouched t u) : WireTouched s u := by
  obtain ⟨hframe, ⟨cuts, hout, hcuts⟩, ⟨l, hnotices, hl⟩⟩ := h
  obtain ⟨hframe', ⟨cuts', hout', hcuts'⟩, ⟨l', hnotices', hl'⟩⟩ := h'
  refine ⟨?_, ⟨cuts ++ cuts', by rw [hout', hout, List.append_assoc], ?_⟩, ⟨l ++ l', by rw [hnotices', hnotices, entered_append], ?_⟩⟩
  · rw [hframe', hframe]
  · exact fun o ho => (List.mem_append.mp ho).elim (hcuts o) (hcuts' o)
  · exact fun e he => (List.mem_append.mp he).elim (hl e) (hl' e)

theorem wireTouched_sweep (s : State) : WireTouched s s.sweep :=
  ⟨rfl, ⟨[], by simp⟩, ⟨[], by simp [entered_nil]⟩⟩

theorem wireTouched_setWire (s : State) (w : Wire) : WireTouched s (s.setWire w) :=
  ⟨rfl, ⟨[], by simp⟩, ⟨[], by simp [entered_nil]⟩⟩

theorem wireTouched_judgeWireLow (s : State) (book before : Nat) : WireTouched s (s.judgeWireLow book before) := by
  rw [State.judgeWireLow_eq]
  refine ⟨rfl, ⟨[], by simp⟩, ⟨_, rfl, fun e he => .inl ?_⟩⟩
  split at he
  · rw [List.mem_singleton.mp he]
  · cases he

theorem wireTouched_startCut (s : State) (b : Book) (first : Bool) : WireTouched s (s.startCut b first) := by
  obtain ⟨-, heq⟩ | ⟨-, heq⟩ := s.startCut_cases b first
  · rw [heq]
    refine WireTouched.trans ?_ (wireTouched_judgeWireLow _ _ _)
    exact ⟨rfl, ⟨_, rfl, fun o ho => ⟨_, _, List.mem_singleton.mp ho⟩⟩, ⟨[], (entered_nil _).symm, fun _ he => by cases he⟩⟩
  · rw [heq, State.push_eq_entered]
    cases first with
    | true => exact ⟨rfl, ⟨[], by simp⟩, ⟨_, rfl, fun e he => .inr (by rw [List.mem_singleton.mp he]; rfl)⟩⟩
    | false => exact ⟨rfl, ⟨[], by simp⟩, ⟨[], (entered_nil _).symm, fun _ he => by cases he⟩⟩

theorem wireTouched_wireStart (s : State) : WireTouched s s.wireStart := by
  obtain heq | ⟨id, b, -, -, -, -, heq⟩ := s.wireStart_cases
  · rw [heq]
    exact .refl s
  · rw [heq]
    exact wireTouched_startCut s b true

theorem wireTouched_dropCut (s : State) : WireTouched s s.dropCut :=
  ((wireTouched_setWire s _).trans (wireTouched_sweep _)).trans (wireTouched_wireStart _)

/-- The Wire Feed drops a cut of the book, or the wait for one, and leaves everything else (R142). -/
theorem State.wireSpoil_of_serves (s : State) {id : Nat} (h : s.wire.Serves id) : s.wireSpoil id = s.dropCut := by
  rcases h with h | ⟨n, h⟩
  · simp [State.wireSpoil, h]
  · simp [State.wireSpoil, h]

theorem State.wireSpoil_of_not_serves (s : State) {id : Nat} (h : ¬ s.wire.Serves id) : s.wireSpoil id = s := by
  unfold State.wireSpoil
  split
  · next book n hfeeder =>
    rw [if_neg]
    rintro rfl
    exact h (.inr ⟨n, hfeeder⟩)
  · next book hfeeder =>
    rw [if_neg]
    rintro rfl
    exact h (.inl hfeeder)
  · rfl

end

/-- The wire after the Wire Feed has dropped a cut of the book, or the wait for one, and before a start (R142). -/
def Wire.spoiled (w : Wire) (id : Nat) : Wire :=
  match w.feeder with
  | .cutReady book _ => if book = id then { w with feeder := .idle } else w
  | .waitingWire book => if book = id then { w with feeder := .idle } else w
  | _ => w

theorem Wire.spoiled_of_serves {w : Wire} {id : Nat} (h : w.Serves id) : w.spoiled id = { w with feeder := .idle } := by
  rcases h with h | ⟨n, h⟩
  · simp [Wire.spoiled, h]
  · simp [Wire.spoiled, h]

theorem Wire.spoiled_of_not_serves {w : Wire} {id : Nat} (h : ¬ w.Serves id) : w.spoiled id = w := by
  unfold Wire.spoiled
  split
  · next book n hfeeder =>
    rw [if_neg]
    rintro rfl
    exact h (.inr ⟨n, hfeeder⟩)
  · next book hfeeder =>
    rw [if_neg]
    rintro rfl
    exact h (.inl hfeeder)
  · rfl

/-- The books served then: as before, but the spoiled book only by a cut under way (R142). -/
theorem Wire.spoiled_book? (w : Wire) (id i : Nat) : (w.spoiled id).feeder.book? = some i ↔
    w.feeder.book? = some i ∧ (i = id → ∃ n ms, w.feeder = .feeding id n ms) := by
  unfold Wire.spoiled
  cases hfeeder : w.feeder with
  | idle => simp [hfeeder, Feeder.book?]
  | feeding book n ms =>
    simp only [hfeeder, Feeder.book?, Option.some.injEq]
    grind
  | cutReady book n | waitingWire book =>
    by_cases hbook : book = id
    · simp only [if_pos hbook, Feeder.book?, Option.some.injEq]
      grind
    · simp only [if_neg hbook, hfeeder, Feeder.book?, Option.some.injEq]
      grind

/-- The records that stay after the Wire Feed and the judgement of removal (R18, R142). -/
theorem State.mem_wireSpoil_sweep (u : State) (id : Nat) (x : Book) : x ∈ (u.wireSpoil id).sweep.books ↔
    x ∈ u.books ∧ (x.state = .spoiled → (u.setWire (u.wire.spoiled id)).Holds x.id) := by
  rw [← State.removable_eq_false]
  by_cases h : u.wire.Serves id
  · rw [u.wireSpoil_of_serves h, State.sweep_of_swept u.swept_dropCut, Wire.spoiled_of_serves h, State.dropCut]
    simp only [State.wireStart_frame]
    rw [State.mem_sweep]
    rfl
  · rw [u.wireSpoil_of_not_serves h, Wire.spoiled_of_not_serves h, State.mem_sweep]
    rfl

/-! ### The records -/

/-- A book that something holds stays in its place when the records are judged (R18). -/
theorem State.book?_sweep_of_holds {s : State} {id : Nat} (h : s.Holds id) : s.sweep.book? id = s.book? id := by
  simp only [State.book?, State.sweep, State.setBooks, List.find?_filter]
  refine List.find?_congr fun x _ => ?_
  by_cases hx : x.id = id
  · simp [(s.removable_eq_false x).mpr fun _ => hx ▸ h, hx]
  · simp [hx]

/-- What a start does to the wire is given by the wire and the book. -/
theorem State.startCut_wire_congr {s t : State} (b : Book) (first : Bool) (h : s.wire = t.wire) :
    (s.startCut b first).wire = (t.startCut b first).wire := by
  by_cases henough : b.tBook.getD 0 ≤ t.wire.spool
  · simp [State.startCut, h, henough]
  · cases first <;> simp [State.startCut, h, henough]

theorem mem_changeBook_iff {id : Nat} {f : Book → Book} {books : List Book} {x : Book} :
    x ∈ changeBook id f books ↔ ∃ b ∈ books, x = if b.id = id then f b else b :=
  ⟨mem_changeBook, fun ⟨b, hb, hx⟩ => List.mem_map.mpr ⟨b, hb, hx.symm⟩⟩

theorem Track.bookAt_condemn (t : Track) (id i : Nat) : (t.condemn id).BookAt i ↔ t.BookAt i := by
  simp [Track.BookAt, Track.condemn, Function.comp_def, Sheet.condemnFor_book]

theorem Track.bookAt_boardBack (t : Track) (i : Nat) : t.boardBack.BookAt i ↔ t.BookAt i := by
  simp [Track.BookAt, Track.boardBack]

section
variable (s : State) (id : Nat) (r : Reason) (q v : Nat)

/-- What holds a book's record once the spoil is handed to every holder: the spoiled book's tray and a cut or wait for it
hold it no longer (R19, R137, R142). -/
theorem State.spoil_holds (i : Nat) :
    ((s.spoilBeforeWire id r q v).setWire ((s.spoilBeforeWire id r q v).wire.spoiled id)).Holds i ↔
      s.track.BookAt i ∨ s.track.permit.map (·.book) = some i ∨ (s.tray.book? = some i ∧ i ≠ id)
      ∨ (s.wire.feeder.book? = some i ∧ (i = id → ∃ n ms, s.wire.feeder = .feeding id n ms))
      ∨ s.closer.mode.book? = some i := by
  have heq := s.spoilBeforeWire_eq id r q v
  have htrack : (s.spoilBeforeWire id r q v).track.BookAt i ↔ s.track.BookAt i := by
    rw [heq, ← s.track.bookAt_condemn id i]
    dsimp only
    split
    · exact Track.bookAt_boardBack _ i
    · rfl
  have hpermit : (s.spoilBeforeWire id r q v).track.permit = s.track.permit := by
    rw [heq]
    dsimp only
    split <;> rfl
  have htray : (s.spoilBeforeWire id r q v).tray.book? = some i ↔ s.tray.book? = some i ∧ i ≠ id := by
    rw [heq]
    dsimp only
    split
    · next h =>
      rw [h]
      exact ⟨(fun hnone => by cases hnone), fun ⟨hi, hne⟩ => absurd (Option.some.inj hi).symm hne⟩
    · next h => exact ⟨fun hi => ⟨hi, fun hid => h (hid ▸ hi)⟩, And.left⟩
  have hwire : (s.spoilBeforeWire id r q v).wire = s.wire := by rw [heq]
  have hcloser : (s.spoilBeforeWire id r q v).closer.mode = s.closer.mode := by
    rw [heq]
    dsimp only
    split <;> rfl
  rw [← Wire.spoiled_book?, ← htrack, ← hpermit, ← htray, ← hcloser, ← hwire]
  rfl

/-- The books after a spoil of a held book. -/
theorem State.mem_spoil_books {b : Book} (hbook : s.book? id = some b) (hsound : b.state ≠ .spoiled) (x : Book) :
    x ∈ (s.spoil id r q v).books ↔
      (∃ y ∈ s.books, x = if y.id = id then y.spoilOn (s.tray.book? == some id) r else y)
      ∧ (x.state = .spoiled → s.track.BookAt x.id ∨ s.track.permit.map (·.book) = some x.id
        ∨ (s.tray.book? = some x.id ∧ x.id ≠ id)
        ∨ (s.wire.feeder.book? = some x.id ∧ (x.id = id → ∃ n ms, s.wire.feeder = .feeding id n ms))
        ∨ s.closer.mode.book? = some x.id) := by
  have hbooks : (s.spoilBeforeWire id r q v).books = changeBook id (Book.spoilOn (s.tray.book? == some id) r) s.books := by
    rw [s.spoilBeforeWire_eq]
  rw [s.spoil_of_held hbook hsound, State.mem_wireSpoil_sweep, State.spoil_holds, hbooks, mem_changeBook_iff]

/-- The record of the spoiled book stays while a sheet, a permit, a running cut or the Closer holds it (R18). -/
theorem State.spoil_record_stays {b : Book} (hbook : s.book? id = some b) (hsound : b.state ≠ .spoiled) :
    (∃ x ∈ (s.spoil id r q v).books, x.id = id) ↔
      s.track.BookAt id ∨ s.track.permit.map (·.book) = some id ∨ (∃ n ms, s.wire.feeder = .feeding id n ms)
      ∨ s.closer.mode.book? = some id := by
  have hid : b.id = id := State.book?_id hbook
  constructor
  · rintro ⟨x, hx, rfl⟩
    obtain ⟨⟨y, hy, hxy⟩, hheld⟩ := (s.mem_spoil_books _ r q v hbook hsound x).mp hx
    have hyid : y.id = x.id := by
      by_contra hne
      rw [if_neg hne] at hxy
      exact hne (by rw [hxy])
    rw [if_pos hyid] at hxy
    have hspoiled : x.state = .spoiled := by rw [hxy]; exact y.spoilOn_state _ r
    rcases hheld hspoiled with htrack | hpermit | ⟨-, hne⟩ | ⟨-, hcut⟩ | hcloser
    · exact .inl htrack
    · exact .inr (.inl hpermit)
    · exact absurd rfl hne
    · exact .inr (.inr (.inl (hcut rfl)))
    · exact .inr (.inr (.inr hcloser))
  · intro hheld
    refine ⟨b.spoilOn (s.tray.book? == some id) r, (s.mem_spoil_books id r q v hbook hsound _).mpr
      ⟨⟨b, State.mem_of_book? hbook, by rw [if_pos hid]⟩, fun _ => ?_⟩, (b.spoilOn_id _ r).trans hid⟩
    rw [Book.spoilOn_id, hid]
    rcases hheld with htrack | hpermit | ⟨n, ms, hcut⟩ | hcloser
    · exact .inl htrack
    · exact .inr (.inl hpermit)
    · exact .inr (.inr (.inr (.inl ⟨by simp [hcut, Feeder.book?], fun _ => ⟨n, ms, hcut⟩⟩)))
    · exact .inr (.inr (.inr (.inr hcloser)))

/-- A spoil leaves the records of the other books (R15, R19). -/
theorem State.mem_spoil_books_of_ne {b : Book} (hswept : s.Swept) (hbook : s.book? id = some b) (hsound : b.state ≠ .spoiled)
    {x : Book} (hne : x.id ≠ id) : x ∈ (s.spoil id r q v).books ↔ x ∈ s.books := by
  rw [s.mem_spoil_books id r q v hbook hsound]
  constructor
  · rintro ⟨⟨y, hy, hxy⟩, -⟩
    by_cases hyid : y.id = id
    · rw [if_pos hyid] at hxy
      exact absurd (hxy ▸ (y.spoilOn_id _ r).trans hyid) hne
    · rw [if_neg hyid] at hxy
      rwa [hxy]
  · intro hx
    refine ⟨⟨x, hx, by rw [if_neg hne]⟩, fun hspoiled => ?_⟩
    rcases hswept x hx hspoiled with htrack | hpermit | htray | hfeeder | hcloser
    · exact .inl htrack
    · exact .inr (.inl hpermit)
    · exact .inr (.inr (.inl ⟨htray, hne⟩))
    · exact .inr (.inr (.inr (.inl ⟨hfeeder, fun hx => absurd hx hne⟩)))
    · exact .inr (.inr (.inr (.inr hcloser)))

/-- All a spoil of a held book touches but its wire, cuts and wire notices stands as before the Wire Feed. -/
theorem State.spoil_wireTouched {b : Book} (hbook : s.book? id = some b) (hsound : b.state ≠ .spoiled) :
    WireTouched (s.spoilBeforeWire id r q v) (s.spoil id r q v) := by
  rw [s.spoil_of_held hbook hsound]
  refine WireTouched.trans ?_ (wireTouched_sweep _)
  by_cases h : (s.spoilBeforeWire id r q v).wire.Serves id
  · rw [State.wireSpoil_of_serves _ h]
    exact wireTouched_dropCut _
  · rw [State.wireSpoil_of_not_serves _ h]
    exact .refl _

/-- The wire after a spoil: no start where the feeder did not serve the book (R142). -/
theorem State.spoil_wire {b : Book} (hbook : s.book? id = some b) (hsound : b.state ≠ .spoiled) :
    (¬ s.wire.Serves id → (s.spoil id r q v).wire = s.wire)
    ∧ (s.wire.Serves id → s.tray = .empty ∨ s.tray.book? = some id →
        (s.spoil id r q v).wire = { s.wire with feeder := .idle })
    ∧ (∀ id' x, s.wire.Serves id → id' ≠ id → s.tray.book? = some id' → s.book? id' = some x →
        (x.state = .spoiled → (s.spoil id r q v).wire = { s.wire with feeder := .idle })
        ∧ (x.state ≠ .spoiled →
          (s.spoil id r q v).wire = (State.startCut { s with wire := { s.wire with feeder := .idle } } x true).wire)) := by
  set u := s.spoilBeforeWire id r q v with hu
  have heq := s.spoilBeforeWire_eq id r q v
  have hwire : u.wire = s.wire := by rw [hu, heq]
  have hspoil : (s.spoil id r q v).wire = (u.wireSpoil id).wire := by
    rw [s.spoil_of_held hbook hsound, ← hu]
    simp
  rw [hspoil, ← hwire]
  refine ⟨fun hnot => by rw [u.wireSpoil_of_not_serves hnot], fun hserves hempty => ?_,
    fun id' x hserves hne htray hx => ?_⟩
  · rw [u.wireSpoil_of_serves hserves, State.dropCut, State.wireStart_stays _ (.inr ?_)]
    · simp
    · simp only [State.sweep_frame, State.setWire_tray, hu, heq]
      split
      · rfl
      · next hother => exact hempty.resolve_right hother
  · have hkept : u.tray = s.tray := by rw [hu, heq]; exact if_neg (by rw [htray]; simpa using hne)
    have hx' : (u.setWire { u.wire with feeder := .idle }).sweep.book? id' = some x := by
      rw [State.book?_sweep_of_holds (.inr (.inr (.inl (by simpa [hkept] using htray))))]
      have hbooks : u.books = (s.updateBook id (Book.spoilOn (s.tray.book? == some id) r)).books := by rw [hu, heq]; rfl
      rw [State.book?, State.setWire_books, hbooks]
      exact (s.book?_updateBook_of_ne _ (Book.spoilOn_id _ r) hne).trans hx
    rw [u.wireSpoil_of_serves hserves, State.dropCut, State.wireStart_of_idle _ (by simp) (by simpa [hkept] using htray), hx']
    refine ⟨fun hspoiled => ?_, fun hspoiled => ?_⟩
    · simp [hspoiled]
    · simp only [if_neg hspoiled]
      exact State.startCut_wire_congr x true (by simp)

end

/-! ### The spoil -/

theorem Sheet.condemnFor_eq (id : Nat) (x : Sheet) : x.condemnFor id =
    if x.book = id ∧ x.route ≠ .reject then
      { x with route := .reject, reason := some .spoiledBook
               plan := x.plan.map fun p => if p.state = .ready then { p with state := .discarded } else p }
    else x := by
  unfold Sheet.condemnFor Sheet.condemn
  by_cases hbook : x.book = id
  · by_cases hroute : x.route = .reject
    · simp [hbook, hroute]
    · simp [hbook, hroute]
  · simp [hbook]

theorem Drill.board_any_iff (d : Drill) (id : Nat) :
    (d.board.any fun b => b.book == id) = true ↔ ∃ b, d.board = some b ∧ b.book = id := by
  cases d.board <;> simp

/-- A running hole of the book's board is aborted (R128). -/
theorem Drill.spoiled_of_running {d : Drill} {id : Nat} (hboard : (d.board.any fun b => b.book == id) = true)
    (h : (d.mode = .drilling ∧ ∃ ms, d.hole = .running ms) ∨ ∃ o, d.mode = .suspendPending o) :
    d.spoiled id = { d with mode := .aborting } := by
  rw [Drill.spoiled, if_pos hboard]
  rcases h with ⟨hmode, ms, hhole⟩ | ⟨o, hmode⟩
  · simp only [hmode, hhole]
  · simp only [hmode]

/-- With no hole that runs or is to be suspended a spoil leaves the controller (R128). -/
theorem Drill.spoiled_of_quiet {d : Drill} {id : Nat} (h : ¬ (d.board.any fun b => b.book == id) = true ∨ d.mode = .idle
    ∨ d.mode = .aborting ∨ (d.mode = .drilling ∧ ∀ ms, d.hole ≠ .running ms)) : d.spoiled id = d := by
  unfold Drill.spoiled
  split
  · next hboard =>
    rcases h with hother | hmode | hmode | ⟨hmode, hhole⟩
    · exact absurd hboard hother
    · rw [hmode]
    · rw [hmode]
    · rw [hmode]
      cases hstill : d.hole with
      | running ms => exact absurd hstill (hhole ms)
      | none | timedOut => rfl
  · rfl

/-- Settles O17: the spoil before the Wire Feed by its equation, what the Wire Feed touches, and the records that stay. -/
theorem spoilTaken : Obligations.SpoilTaken := by
  unfold Obligations.SpoilTaken
  refine ⟨fun s id r seq value => ⟨fun hnone => ?_, fun b hbook hspoiled => ?_⟩, ?_⟩
  · rw [State.spoil, hnone]
  · rw [State.spoil, hbook]
    exact if_pos hspoiled
  intro s id r seq value b hremoved hbook hsound t hit boardHit aborting idle served dropped
  have hswept := (spoiledRemoved_iff s).mp hremoved
  have heq := s.spoilBeforeWire_eq id r seq value
  obtain ⟨hframe, ⟨cuts, hout, hcuts⟩, ⟨l, hnotices, hl⟩⟩ := s.spoil_wireTouched id r seq value hbook hsound
  obtain ⟨hwireStays, hwireDropped, hwireNext⟩ := s.spoil_wire id r seq value hbook hsound
  have hhit : Sheet.condemnFor id = hit := funext (Sheet.condemnFor_eq id)
  have htrack : t.track = if s.drill.freed id then (s.track.condemn id).boardBack else s.track.condemn id := by
    rw [show t.track = _ from congrArg State.track hframe, heq]
  have hdrill : t.drill = s.drill.spoiled id := by
    rw [show t.drill = _ from congrArg State.drill hframe, heq]
  refine ⟨fun x hx hid => ?_, ?_, fun x hne => s.mem_spoil_books_of_ne id r seq value hswept hbook hsound hne,
    ⟨l, ?_, hl⟩, ?_, ?_, ?_, fun hboard hmode => ?_, fun hnot => ?_, fun hboard hmode => ?_, fun hquiet => ?_, ?_, ?_, ?_,
    fun htray => ?_, fun htray => ?_, ⟨cuts, ?_, hcuts⟩, hwireStays, hwireDropped, hwireNext, ?_⟩
  · obtain ⟨⟨y, hy, hxy⟩, -⟩ := (s.mem_spoil_books id r seq value hbook hsound x).mp hx
    have hyid : y.id = id := by
      by_contra hne
      rw [if_neg hne] at hxy
      exact hne (hxy ▸ hid)
    refine ⟨y, hy, hyid, ?_⟩
    rw [hxy, if_pos hyid]
    by_cases htray : s.tray.book? = some id
    · rw [if_pos htray, beq_iff_eq.mpr htray]
      rfl
    · rw [if_neg htray, beq_eq_false_iff_ne.mpr htray]
      rfl
  · rw [s.spoil_record_stays id r seq value hbook hsound, ← Track.holdsBook_iff]
    simp [Track.holdsBook]
  · rw [hnotices, heq, entered_append]
    rfl
  · rw [htrack, ← hhit]
    split <;> rfl
  · rw [htrack, ← hhit]
    split <;> rfl
  · rw [htrack, ← hhit]
    split <;> rfl
  · have hfreed : s.drill.freed id = true := (s.drill.freed_iff id).mpr ⟨hboard, hmode⟩
    refine ⟨?_, ?_⟩
    · obtain ⟨o, hmode⟩ := hmode
      rw [hdrill, Drill.spoiled, if_pos ((s.drill.board_any_iff id).mpr hboard), hmode]
      rfl
    · rw [htrack, if_pos hfreed]
      rfl
  · have hfreed : ¬ s.drill.freed id = true := mt (s.drill.freed_iff id).mp hnot
    rw [htrack, if_neg hfreed]
    rfl
  · rw [hdrill]
    exact Drill.spoiled_of_running ((s.drill.board_any_iff id).mpr hboard) hmode
  · rw [hdrill]
    exact Drill.spoiled_of_quiet (hquiet.imp_left (mt (s.drill.board_any_iff id).mp))
  · rw [htrack]
    split <;> rfl
  · rw [htrack]
    split <;> rfl
  · rw [htrack]
    split <;> rfl
  · rw [show t.tray = _ from congrArg State.tray hframe, show t.closer = _ from congrArg State.closer hframe, heq]
    exact ⟨if_pos htray, if_pos htray⟩
  · rw [show t.tray = _ from congrArg State.tray hframe, show t.closer = _ from congrArg State.closer hframe, heq]
    exact ⟨if_neg htray, if_neg htray⟩
  · rw [hout, heq]
  · simp [t]

end Sys2Proof.Machine
end

section
/-! PROOFS. The judgement of a descriptor, check by check (R103 to R108). -/

namespace Sys2Proof.Machine

open Sys2Proof.Safety

/-! ### The checks as conditions on the bytes fetched -/

namespace Descriptor

section
variable (d : List Byte)

/-- The offset of table header `i` (11_record_layouts.md). -/
def idAt (i : Nat) : Nat := u8 d (10 + 8 * i)

def wordsAt (i : Nat) : Nat := u16 d (12 + 8 * i)

def pointerAt (i : Nat) : Nat := u16 d (14 + 8 * i) + 65536 * u8 d (16 + 8 * i)

/-- Header `i` is of a known table, which has at least `k` words (R104). -/
def Least (i k : Nat) : Prop := (idAt d i = 1 ∧ k = 3) ∨ (idAt d i = 2 ∧ k = 2) ∨ (idAt d i = 3 ∧ k = 5)

def Signed : Prop := 10 ≤ d.length ∧ d.take 4 = [0x4F, 0x46, 0x44, 0x31]

def Revised : Prop := Signed d ∧ u8 d 4 = 1

def Counted : Prop := Revised d ∧ 1 ≤ u8 d 6 ∧ u8 d 6 ≤ 4

def Sized : Prop := Counted d ∧ 10 + 8 * u8 d 6 ≤ u16 d 8 ∧ u16 d 8 + 2 ≤ 2048

def Fetched : Prop := Sized d ∧ u16 d 8 + 2 ≤ d.length

def Checked : Prop := Fetched d ∧ (crc (d.take (u16 d 8))).toNat = u16 d (u16 d 8)

/-- A header of a known id is malformed (R104). -/
def Malformed : Prop := ∃ i k, i < u8 d 6 ∧ Least d i k ∧ (u8 d (11 + 8 * i) = 0 ∨ u16 d 8 < pointerAt d i + 4 * wordsAt d i
  ∨ pointerAt d i < 10 + 8 * u8 d 6 ∨ wordsAt d i < k ∨ ∃ j, j < i ∧ idAt d j = idAt d i)

def Formed : Prop := Checked d ∧ ¬ Malformed d

/-- A header gives table `k` the offset `o` (R104). -/
def HasTable (k o : Nat) : Prop := ∃ i, i < u8 d 6 ∧ idAt d i = k ∧ pointerAt d i = o

def PinsOk (o : Nat) : Prop := 16 ≤ u8 d o ∧ u8 d o ≤ 64 ∧ 500 ≤ u16 d (o + 2) ∧ u16 d (o + 2) ≤ 2000
  ∧ u16 d (o + 4) + (u8 d o - 1) * u16 d (o + 2) ≤ 60000 ∧ 50 ≤ u16 d (o + 6) ∧ u16 d (o + 6) ≤ 1500
  ∧ 1 ≤ u16 d (o + 8)

def NotchOk (o : Nat) : Prop := u16 d o ≤ u16 d (o + 2) ∧ u16 d (o + 2) ≤ 60000 ∧ 1 ≤ u16 d (o + 4) ∧ u16 d (o + 4) ≤ 4095

def RetiredOk (n o : Nat) : Prop := u8 d o ≤ 16 ∧ ∀ j, j < u8 d o → u8 d (o + 1 + j) < n

/-- The check that a descriptor is the first to fail. -/
def Fails : DieCheck → Prop
  | .noResponse => d.length < 10 ∨ (Sized d ∧ d.length < u16 d 8 + 2)
  | .signature => 10 ≤ d.length ∧ ¬ Signed d
  | .revision => Signed d ∧ ¬ Revised d
  | .headerCount => Revised d ∧ ¬ Counted d
  | .length => Counted d ∧ ¬ Sized d
  | .crc => Fetched d ∧ ¬ Checked d
  | .tableForm => Checked d ∧ Malformed d
  | .noPinTable => Formed d ∧ ∀ o, ¬ HasTable d 1 o
  | .pinValue => Formed d ∧ ∃ o, HasTable d 1 o ∧ ¬ PinsOk d o
  | .notchValue => Formed d ∧ (∃ o, HasTable d 1 o ∧ PinsOk d o) ∧ ∃ o, HasTable d 2 o ∧ ¬ NotchOk d o
  | .retiredValue => Formed d ∧ (∀ o, HasTable d 2 o → NotchOk d o)
      ∧ ∃ o q, HasTable d 1 o ∧ PinsOk d o ∧ HasTable d 3 q ∧ ¬ RetiredOk d (u8 d o) q

/-- All checks pass, with the pin table at `o`. -/
def Passes (o : Nat) : Prop := Formed d ∧ (∀ q, HasTable d 2 q → NotchOk d q) ∧ HasTable d 1 o ∧ PinsOk d o
  ∧ ∀ q, HasTable d 3 q → RetiredOk d (u8 d o) q

/-- The checks are all there is: one fails first, or all pass. -/
theorem fails_or_passes : (∃ c, Fails d c) ∨ ∃ o, Passes d o := by
  by_cases hlength : d.length < 10
  · exact .inl ⟨.noResponse, .inl hlength⟩
  by_cases hsigned : Signed d
  case neg => exact .inl ⟨.signature, not_lt.mp hlength, hsigned⟩
  by_cases hrevised : Revised d
  case neg => exact .inl ⟨.revision, hsigned, hrevised⟩
  by_cases hcounted : Counted d
  case neg => exact .inl ⟨.headerCount, hrevised, hcounted⟩
  by_cases hsized : Sized d
  case neg => exact .inl ⟨.length, hcounted, hsized⟩
  by_cases hfetched : Fetched d
  case neg => exact .inl ⟨.noResponse, .inr ⟨hsized, not_le.mp fun h => hfetched ⟨hsized, h⟩⟩⟩
  by_cases hchecked : Checked d
  case neg => exact .inl ⟨.crc, hfetched, hchecked⟩
  by_cases hmalformed : Malformed d
  case pos => exact .inl ⟨.tableForm, hchecked, hmalformed⟩
  have hformed : Formed d := ⟨hchecked, hmalformed⟩
  by_cases hpin : ∃ o, HasTable d 1 o
  case neg => exact .inl ⟨.noPinTable, hformed, not_exists.mp hpin⟩
  obtain ⟨o, htable⟩ := hpin
  by_cases hpins : PinsOk d o
  case neg => exact .inl ⟨.pinValue, hformed, o, htable, hpins⟩
  by_cases hnotch : ∃ q, HasTable d 2 q ∧ ¬ NotchOk d q
  case pos => exact .inl ⟨.notchValue, hformed, ⟨o, htable, hpins⟩, hnotch⟩
  have hnotches (q : Nat) (hq : HasTable d 2 q) : NotchOk d q := by_contra fun h => hnotch ⟨q, hq, h⟩
  by_cases hretired : ∃ q, HasTable d 3 q ∧ ¬ RetiredOk d (u8 d o) q
  case pos =>
    obtain ⟨q, hq, hbad⟩ := hretired
    exact .inl ⟨.retiredValue, hformed, hnotches, o, q, htable, hpins, hq, hbad⟩
  exact .inr ⟨o, hformed, hnotches, htable, hpins, fun q hq => by_contra fun h => hretired ⟨q, hq, h⟩⟩

/-! ### The model's tests of the tables -/

theorem pinTableOk_iff (o : Nat) : pinTableOk d o = true ↔ PinsOk d o := by
  have hmax (i : Nat) : u16 d i ≤ 65535 := by
    have hlow : u8 d i < 256 := (d.getD i 0).isLt
    have hhigh : u8 d (i + 1) < 256 := (d.getD (i + 1) 0).isLt
    rw [u16]
    omega
  have hlife := hmax (o + 8)
  simp only [pinTableOk, PinsOk, inRange, Bool.and_eq_true, decide_eq_true_eq]
  constructor
  · rintro ⟨⟨⟨⟨⟨⟨hn, hn'⟩, hp, hp'⟩, -⟩, hrow⟩, hlift, hlift'⟩, hlow, -⟩
    exact ⟨hn, hn', hp, hp', hrow, hlift, hlift', hlow⟩
  · rintro ⟨hn, hn', hp, hp', hrow, hlift, hlift', hlow⟩
    exact ⟨⟨⟨⟨⟨⟨hn, hn'⟩, hp, hp'⟩, Nat.zero_le _, le_trans (Nat.le_add_right _ _) hrow⟩, hrow⟩, hlift, hlift'⟩, hlow, hlife⟩

theorem notchTableOk_iff (o : Nat) : notchTableOk d o = true ↔ NotchOk d o := by
  simp only [notchTableOk, NotchOk, inRange, Bool.and_eq_true, decide_eq_true_eq]
  omega

theorem retiredTableOk_iff (n o : Nat) : retiredTableOk d n o = true ↔ RetiredOk d n o := by
  simp [retiredTableOk, RetiredOk, retiredPins]

/-- The header entry `i` as it is read (R104). -/
def headerAt (i : Nat) : TableHeader :=
  { id := idAt d i, revision := u8 d (11 + 8 * i), words := wordsAt d i, pointer := pointerAt d i }

theorem tableHeaders_eq : tableHeaders d = (List.range (u8 d 6)).map (headerAt d) := by
  refine List.map_congr_left fun i _ => ?_
  have hone : 10 + 8 * i + 1 = 11 + 8 * i := by omega
  have htwo : 10 + 8 * i + 2 = 12 + 8 * i := by omega
  have hfour : 10 + 8 * i + 4 = 14 + 8 * i := by omega
  simp only [headerAt, idAt, wordsAt, pointerAt, u24, hone, htwo, hfour]
  have hsix : 14 + 8 * i + 2 = 16 + 8 * i := by omega
  rw [hsix]

theorem minWords_eq_some (i k : Nat) : minWords (idAt d i) = some k ↔ Least d i k := by
  unfold minWords Least
  split_ifs <;> simp <;> omega

/-- A header malformed by itself (R104, the first four cases). -/
theorem headerMalformed_iff (i : Nat) : headerMalformed d (headerAt d i) = true ↔
    ∃ k, Least d i k ∧ (u8 d (11 + 8 * i) = 0 ∨ u16 d 8 < pointerAt d i + 4 * wordsAt d i
      ∨ pointerAt d i < 10 + 8 * u8 d 6 ∨ wordsAt d i < k) := by
  simp only [← minWords_eq_some]
  unfold headerMalformed
  split
  · next h =>
    have hnone : minWords (idAt d i) = none := h
    simp [hnone]
  · next n h =>
    simp only [Bool.or_eq_true, beq_iff_eq, decide_eq_true_eq, or_assoc]
    refine ⟨fun hbad => ⟨n, h, hbad⟩, fun ⟨k, hk, hbad⟩ => ?_⟩
    obtain rfl := Option.some.inj (hk.symm.trans h)
    exact hbad

theorem idRepeated_iff (l : List TableHeader) : idRepeated l = true ↔
    ¬ l.Pairwise fun h x => ¬ ((minWords h.id).isSome = true ∧ x.id = h.id) := by
  induction l with
  | nil => simp [idRepeated]
  | cons h l ih =>
    simp only [idRepeated, Bool.or_eq_true, ih, List.pairwise_cons]
    simp only [Bool.and_eq_true, List.any_eq_true, beq_iff_eq]
    grind

/-- A known id that an earlier header carries too (R104, the last case). -/
theorem idRepeated_headers_iff : idRepeated (tableHeaders d) = true ↔
    ∃ i k, i < u8 d 6 ∧ Least d i k ∧ ∃ j, j < i ∧ idAt d j = idAt d i := by
  rw [idRepeated_iff, tableHeaders_eq, List.pairwise_iff_getElem]
  simp only [List.length_map, List.length_range, List.getElem_map, List.getElem_range, headerAt]
  constructor
  · intro h
    by_contra hnone
    refine h fun j i hj hi hlt ⟨hknown, hid⟩ => hnone ?_
    obtain ⟨k, hk⟩ := Option.isSome_iff_exists.mp hknown
    rw [← hid] at hk
    exact ⟨i, k, hi, (minWords_eq_some d i k).mp hk, j, hlt, hid.symm⟩
  · rintro ⟨i, k, hi, hk, j, hlt, hid⟩ h
    have hknown : minWords (idAt d j) = some k := by rw [hid]; exact (minWords_eq_some d i k).mpr hk
    exact h j i (hlt.trans hi) hi hlt ⟨by rw [hknown]; rfl, hid.symm⟩

theorem malformed_iff :
    ((tableHeaders d).any (headerMalformed d) || idRepeated (tableHeaders d)) = true ↔ Malformed d := by
  have hany : (tableHeaders d).any (headerMalformed d) = true ↔ ∃ i, i < u8 d 6 ∧ headerMalformed d (headerAt d i) = true := by
    simp [tableHeaders_eq]
  rw [Bool.or_eq_true, hany, idRepeated_headers_iff]
  simp only [headerMalformed_iff, Malformed]
  constructor
  · rintro (⟨i, hi, k, hk, hbad⟩ | ⟨i, k, hi, hk, hrepeated⟩)
    · refine ⟨i, k, hi, hk, ?_⟩
      rcases hbad with hrevision | hend | hstart | hwords
      · exact .inl hrevision
      · exact .inr (.inl hend)
      · exact .inr (.inr (.inl hstart))
      · exact .inr (.inr (.inr (.inl hwords)))
    · exact ⟨i, k, hi, hk, .inr (.inr (.inr (.inr hrepeated)))⟩
  · rintro ⟨i, k, hi, hk, hrevision | hend | hstart | hwords | hrepeated⟩
    · exact .inl ⟨i, hi, k, hk, .inl hrevision⟩
    · exact .inl ⟨i, hi, k, hk, .inr (.inl hend)⟩
    · exact .inl ⟨i, hi, k, hk, .inr (.inr (.inl hstart))⟩
    · exact .inl ⟨i, hi, k, hk, .inr (.inr (.inr hwords))⟩
    · exact .inr ⟨i, k, hi, hk, hrepeated⟩

/-- In a well-formed descriptor a known table has one header (R104). -/
theorem headers_unique (h : ¬ Malformed d) {i j k : Nat} (hi : i < u8 d 6) (hj : j < u8 d 6) (hk : Least d i k)
    (hid : idAt d j = idAt d i) : i = j := by
  rcases Nat.lt_trichotomy i j with hlt | rfl | hlt
  · have hk' : Least d j k := by simpa only [Least, hid] using hk
    exact absurd ⟨j, k, hj, hk', .inr (.inr (.inr (.inr ⟨i, hlt, hid.symm⟩)))⟩ h
  · rfl
  · exact absurd ⟨i, k, hi, hk, .inr (.inr (.inr (.inr ⟨j, hlt, hid⟩)))⟩ h

theorem tableAt_iff (h : ¬ Malformed d) {k : Nat} (hk : k = 1 ∨ k = 2 ∨ k = 3) (o : Nat) :
    tableAt d k = some o ↔ HasTable d k o := by
  have hleast {i : Nat} (hi : idAt d i = k) : ∃ n, Least d i n := by
    rcases hk with rfl | rfl | rfl
    · exact ⟨3, .inl ⟨hi, rfl⟩⟩
    · exact ⟨2, .inr (.inl ⟨hi, rfl⟩)⟩
    · exact ⟨5, .inr (.inr ⟨hi, rfl⟩)⟩
  have hfound {x : TableHeader} (hx : (tableHeaders d).find? (fun h => h.id == k) = some x) :
      ∃ i, i < u8 d 6 ∧ idAt d i = k ∧ x = headerAt d i := by
    have hmem := List.mem_of_find?_eq_some hx
    have hid : x.id = k := by simpa using List.find?_some hx
    rw [tableHeaders_eq] at hmem
    obtain ⟨i, hi, rfl⟩ := List.mem_map.mp hmem
    exact ⟨i, List.mem_range.mp hi, hid, rfl⟩
  rw [tableAt, Option.map_eq_some_iff]
  constructor
  · rintro ⟨x, hx, rfl⟩
    obtain ⟨i, hi, hid, rfl⟩ := hfound hx
    exact ⟨i, hi, hid, rfl⟩
  · rintro ⟨i, hi, hid, rfl⟩
    cases hx : (tableHeaders d).find? fun h => h.id == k with
    | none =>
      have hmem : headerAt d i ∈ tableHeaders d := by
        rw [tableHeaders_eq]
        exact List.mem_map.mpr ⟨i, List.mem_range.mpr hi, rfl⟩
      exact absurd (beq_iff_eq.mpr hid) (List.find?_eq_none.mp hx _ hmem)
    | some x =>
      obtain ⟨j, hj, hjid, rfl⟩ := hfound hx
      obtain ⟨n, hn⟩ := hleast hid
      obtain rfl := headers_unique d h hi hj hn (hjid.trans hid.symm)
      exact ⟨_, rfl, rfl⟩

/-! ### The judgement -/

/-- The first five checks in their order, as conditions (R103). -/
theorem judgeDescriptor_eq : judgeDescriptor d =
    if d.length < 10 then .error .noResponse
    else if d.take 4 ≠ [0x4F, 0x46, 0x44, 0x31] then .error .signature
    else if u8 d 4 ≠ 1 then .error .revision
    else if ¬ (1 ≤ u8 d 6 ∧ u8 d 6 ≤ 4) then .error .headerCount
    else if ¬ (10 + 8 * u8 d 6 ≤ u16 d 8 ∧ u16 d 8 + 2 ≤ 2048) then .error .length
    else if d.length < u16 d 8 + 2 then .error .noResponse
    else judgeRegion d := by
  have hcount : (!(inRange 1 4 (u8 d 6))) = true ↔ ¬ (1 ≤ u8 d 6 ∧ u8 d 6 ≤ 4) := by
    simp [inRange]
    omega
  have hsize : (totalLength d < headersLength d ∨ 2048 < totalLength d + 2)
      ↔ ¬ (10 + 8 * u8 d 6 ≤ u16 d 8 ∧ u16 d 8 + 2 ≤ 2048) := by
    simp only [totalLength, headersLength]
    omega
  simp only [judgeDescriptor, hcount, hsize]
  rfl

/-- Past the first five checks the region is judged (R103). -/
theorem judge_of_fetched (h : Fetched d) : judgeDescriptor d = judgeRegion d := by
  obtain ⟨⟨⟨⟨⟨hlength, hsignature⟩, hrevision⟩, hcount⟩, hsize⟩, hall⟩ := h
  rw [judgeDescriptor_eq, if_neg (not_lt.mpr hlength), if_neg (not_not.mpr hsignature), if_neg (not_not.mpr hrevision),
    if_neg (not_not.mpr hcount), if_neg (not_not.mpr hsize), if_neg (not_lt.mpr hall)]

/-- Checks 8 to 11: the tables as they are read (R105 to R107). -/
def judgeTables : Except DieCheck DieRecord :=
  match tableAt d 1 with
  | none => .error .noPinTable
  | some o =>
    if !(pinTableOk d o) then .error .pinValue
    else if !((tableAt d 2).all (notchTableOk d)) then .error .notchValue
    else if !((tableAt d 3).all (retiredTableOk d (u8 d o))) then .error .retiredValue
    else .ok (dieRecord d o)

/-- Past the check code the tables are judged (R103). -/
theorem judge_of_checked (h : Checked d) : judgeDescriptor d =
    if (tableHeaders d).any (headerMalformed d) || idRepeated (tableHeaders d) then .error .tableForm
    else judgeTables d := by
  obtain ⟨hfetched, hcrc⟩ := h
  have hcode : ¬ (crc (d.take (totalLength d))).toNat ≠ u16 d (totalLength d) := not_not.mpr hcrc
  exact (judge_of_fetched d hfetched).trans (if_neg hcode)

/-- Past the table form the tables are read (R105 to R107). -/
theorem judge_of_formed (h : Formed d) : judgeDescriptor d = judgeTables d := by
  obtain ⟨hchecked, hformed⟩ := h
  rw [judge_of_checked d hchecked, if_neg (mt (malformed_iff d).mp hformed)]

/-- What is written of a table holds of it where a header carries its id. -/
theorem tableAt_all_iff (h : ¬ Malformed d) {k : Nat} (hk : k = 1 ∨ k = 2 ∨ k = 3) (p : Nat → Bool) :
    (tableAt d k).all p = true ↔ ∀ o, HasTable d k o → p o = true := by
  simp only [← tableAt_iff d h hk]
  cases tableAt d k <;> simp

/-- With the pin table found and in range the other two tables are judged (R106, R107). -/
theorem judge_of_pins (h : Formed d) {o : Nat} (htable : HasTable d 1 o) (hpins : PinsOk d o) : judgeDescriptor d =
    if !((tableAt d 2).all (notchTableOk d)) then .error .notchValue
    else if !((tableAt d 3).all (retiredTableOk d (u8 d o))) then .error .retiredValue
    else .ok (dieRecord d o) := by
  have hok : (!(pinTableOk d o)) = false := by rw [(pinTableOk_iff d o).mpr hpins]; rfl
  rw [judge_of_formed d h, judgeTables, (tableAt_iff d h.2 (.inl rfl) o).mpr htable]
  simp only [hok, Bool.false_eq_true, if_false]

/-- The first check to fail is the judgement. -/
theorem judge_of_fails {c : DieCheck} (h : Fails d c) : judgeDescriptor d = .error c := by
  cases c with
  | noResponse =>
    rcases h with hshort | ⟨⟨⟨⟨⟨hlength, hsignature⟩, hrevision⟩, hcount⟩, hsize⟩, hshort⟩
    · rw [judgeDescriptor_eq, if_pos hshort]
    · rw [judgeDescriptor_eq, if_neg (not_lt.mpr hlength), if_neg (not_not.mpr hsignature),
        if_neg (not_not.mpr hrevision), if_neg (not_not.mpr hcount), if_neg (not_not.mpr hsize), if_pos hshort]
  | signature =>
    obtain ⟨hlength, hwrong⟩ := h
    rw [judgeDescriptor_eq, if_neg (not_lt.mpr hlength), if_pos fun h => hwrong ⟨hlength, h⟩]
  | revision =>
    obtain ⟨⟨hlength, hsignature⟩, hwrong⟩ := h
    rw [judgeDescriptor_eq, if_neg (not_lt.mpr hlength), if_neg (not_not.mpr hsignature),
      if_pos fun h => hwrong ⟨⟨hlength, hsignature⟩, h⟩]
  | headerCount =>
    obtain ⟨⟨⟨hlength, hsignature⟩, hrevision⟩, hwrong⟩ := h
    rw [judgeDescriptor_eq, if_neg (not_lt.mpr hlength), if_neg (not_not.mpr hsignature), if_neg (not_not.mpr hrevision),
      if_pos fun h => hwrong ⟨⟨⟨hlength, hsignature⟩, hrevision⟩, h⟩]
  | length =>
    obtain ⟨⟨⟨⟨hlength, hsignature⟩, hrevision⟩, hcount⟩, hwrong⟩ := h
    rw [judgeDescriptor_eq, if_neg (not_lt.mpr hlength), if_neg (not_not.mpr hsignature), if_neg (not_not.mpr hrevision),
      if_neg (not_not.mpr hcount), if_pos fun h => hwrong ⟨⟨⟨⟨hlength, hsignature⟩, hrevision⟩, hcount⟩, h⟩]
  | crc =>
    obtain ⟨hfetched, hwrong⟩ := h
    have hcrc : (crc (d.take (totalLength d))).toNat ≠ u16 d (totalLength d) := fun h => hwrong ⟨hfetched, h⟩
    rw [judge_of_fetched d hfetched, judgeRegion, if_pos hcrc]
  | tableForm =>
    obtain ⟨hchecked, hmalformed⟩ := h
    rw [judge_of_checked d hchecked, if_pos ((malformed_iff d).mpr hmalformed)]
  | noPinTable =>
    obtain ⟨hformed, hnone⟩ := h
    have htable : tableAt d 1 = none := by
      refine Option.eq_none_iff_forall_not_mem.mpr fun o ho => hnone o ?_
      exact (tableAt_iff d hformed.2 (.inl rfl) o).mp ho
    rw [judge_of_formed d hformed, judgeTables, htable]
  | pinValue =>
    obtain ⟨hformed, o, htable, hbad⟩ := h
    have hno : (!(pinTableOk d o)) = true := by simpa using mt (pinTableOk_iff d o).mp hbad
    rw [judge_of_formed d hformed, judgeTables, (tableAt_iff d hformed.2 (.inl rfl) o).mpr htable]
    simp only [hno, if_true]
  | notchValue =>
    obtain ⟨hformed, ⟨o, htable, hpins⟩, q, hq, hbad⟩ := h
    have hno : (!((tableAt d 2).all (notchTableOk d))) = true := by
      rw [Bool.not_eq_true', Bool.eq_false_iff, Ne, tableAt_all_iff d hformed.2 (.inr (.inl rfl))]
      exact fun hall => hbad ((notchTableOk_iff d q).mp (hall q hq))
    rw [judge_of_pins d hformed htable hpins, if_pos hno]
  | retiredValue =>
    obtain ⟨hformed, hnotches, o, q, htable, hpins, hq, hbad⟩ := h
    have hyes : (tableAt d 2).all (notchTableOk d) = true :=
      (tableAt_all_iff d hformed.2 (.inr (.inl rfl)) _).mpr fun q hq => (notchTableOk_iff d q).mpr (hnotches q hq)
    have hno : (!((tableAt d 3).all (retiredTableOk d (u8 d o)))) = true := by
      rw [Bool.not_eq_true', Bool.eq_false_iff, Ne, tableAt_all_iff d hformed.2 (.inr (.inr rfl))]
      exact fun hall => hbad ((retiredTableOk_iff d _ q).mp (hall q hq))
    rw [judge_of_pins d hformed htable hpins, hyes, if_neg (by simp), if_pos hno]

/-- Past all checks the die record is read from the tables (R105 to R108). -/
theorem judge_of_passes {o : Nat} (h : Passes d o) : judgeDescriptor d = .ok (dieRecord d o) := by
  obtain ⟨hformed, hnotches, htable, hpins, hretired⟩ := h
  have hnotch : (tableAt d 2).all (notchTableOk d) = true :=
    (tableAt_all_iff d hformed.2 (.inr (.inl rfl)) _).mpr fun q hq => (notchTableOk_iff d q).mpr (hnotches q hq)
  have hretire : (tableAt d 3).all (retiredTableOk d (u8 d o)) = true :=
    (tableAt_all_iff d hformed.2 (.inr (.inr rfl)) _).mpr fun q hq => (retiredTableOk_iff d _ q).mpr (hretired q hq)
  rw [judge_of_pins d hformed htable hpins, hnotch, hretire]
  rfl

theorem judge_error_iff (c : DieCheck) : judgeDescriptor d = .error c ↔ Fails d c := by
  refine ⟨fun hjudge => ?_, judge_of_fails d⟩
  obtain ⟨c', hfails⟩ | ⟨o, hpasses⟩ := fails_or_passes d
  · rw [judge_of_fails d hfails] at hjudge
    cases hjudge
    exact hfails
  · rw [judge_of_passes d hpasses] at hjudge
    cases hjudge

theorem judge_ok_iff (r : DieRecord) : judgeDescriptor d = .ok r ↔ ∃ o, Passes d o ∧ dieRecord d o = r := by
  refine ⟨fun hjudge => ?_, fun ⟨o, hpasses, hr⟩ => hr ▸ judge_of_passes d hpasses⟩
  obtain ⟨c', hfails⟩ | ⟨o, hpasses⟩ := fails_or_passes d
  · rw [judge_of_fails d hfails] at hjudge
    cases hjudge
  · rw [judge_of_passes d hpasses] at hjudge
    exact ⟨o, hpasses, Except.ok.inj hjudge⟩

end

end Descriptor

end Sys2Proof.Machine
end

section
/-! PROOFS. The die record a descriptor states, and a descriptor written by the layouts (R105 to R108). -/

namespace Sys2Proof.Machine

open Sys2Proof.Safety

namespace Descriptor

/-! ### The die record -/

section
variable {d : List Byte}

theorem tableAt_eq_none_iff (h : ¬ Malformed d) {k : Nat} (hk : k = 1 ∨ k = 2 ∨ k = 3) :
    tableAt d k = none ↔ ∀ o, ¬ HasTable d k o := by
  simp only [← tableAt_iff d h hk]
  cases tableAt d k <;> simp

/-- The notch tool of the record (R106). -/
theorem notch_eq_iff (h : ¬ Malformed d) (o : Nat) (r : Option NotchTool) : (dieRecord d o).notch = r ↔
    ((∀ q, ¬ HasTable d 2 q) → r = none) ∧ ∀ q, HasTable d 2 q →
      r = some { reachMin := u16 d q, reachMax := u16 d (q + 2), maxCaliper := u16 d (q + 4) } := by
  rw [← tableAt_eq_none_iff h (.inr (.inl rfl))]
  simp only [← tableAt_iff d h (.inr (.inl rfl)), dieRecord]
  cases tableAt d 2 with
  | none => simp [eq_comm]
  | some q => simp [eq_comm]

theorem mem_distinctBelow {n k : Nat} {l : List Nat} : k ∈ distinctBelow n l ↔ k < n ∧ k ∈ l := by
  simp [distinctBelow]

theorem distinctBelow_sorted (n : Nat) (l : List Nat) : (distinctBelow n l).Pairwise (· < ·) :=
  List.pairwise_lt_range.filter _

/-- A list in increasing order is given by its members. -/
theorem eq_of_sorted_of_mem {a b : List Nat} (ha : a.Pairwise (· < ·)) (hb : b.Pairwise (· < ·)) (h : ∀ k, k ∈ a ↔ k ∈ b) :
    a = b :=
  ha.sortedLT.eq_of_mem_iff hb.sortedLT h

/-- The retired pins of the record, in increasing order (R107). -/
theorem retired_eq_iff (h : ¬ Malformed d) (o : Nat) (hretired : ∀ q, HasTable d 3 q → RetiredOk d (u8 d o) q) (r : List Nat) :
    (dieRecord d o).retired = r ↔ r.Pairwise (· < ·)
      ∧ ∀ k, k ∈ r ↔ ∃ q j, HasTable d 3 q ∧ j < u8 d q ∧ u8 d (q + 1 + j) = k := by
  have hmem (k : Nat) : k ∈ (dieRecord d o).retired ↔ ∃ q j, HasTable d 3 q ∧ j < u8 d q ∧ u8 d (q + 1 + j) = k := by
    simp only [← tableAt_iff d h (.inr (.inr rfl))] at hretired ⊢
    rw [dieRecord]
    cases htable : tableAt d 3 with
    | none => simp
    | some q =>
      obtain ⟨-, hbelow⟩ := hretired q htable
      simp only [mem_distinctBelow, retiredPins, List.mem_map, List.mem_range, Option.some.injEq]
      constructor
      · rintro ⟨-, j, hj, hk⟩
        exact ⟨q, j, rfl, hj, hk⟩
      · rintro ⟨q', j, rfl, hj, rfl⟩
        exact ⟨hbelow j hj, j, hj, rfl⟩
  have hsorted : (dieRecord d o).retired.Pairwise (· < ·) := by
    rw [dieRecord]
    cases tableAt d 3 with
    | none => exact List.Pairwise.nil
    | some q => exact distinctBelow_sorted _ _
  constructor
  · rintro rfl
    exact ⟨hsorted, hmem⟩
  · rintro ⟨hr, hrmem⟩
    exact eq_of_sorted_of_mem hsorted hr fun k => (hmem k).trans (hrmem k).symm

/-- The die record by its fields (R105 to R108). -/
theorem dieRecord_eq_iff (o : Nat) (r : DieRecord) : dieRecord d o = r ↔
      r.minor = u8 d 5 ∧ r.n = u8 d o ∧ r.p = u16 d (o + 2) ∧ r.d0 = u16 d (o + 4) ∧ r.maxLift = u16 d (o + 6)
      ∧ r.pinLife = u16 d (o + 8) ∧ (dieRecord d o).notch = r.notch ∧ (dieRecord d o).retired = r.retired := by
  constructor
  · rintro rfl
    exact ⟨rfl, rfl, rfl, rfl, rfl, rfl, rfl, rfl⟩
  · obtain ⟨minor, n, p, d0, lift, life, notch, retired⟩ := r
    rintro ⟨rfl, rfl, rfl, rfl, rfl, rfl, rfl, rfl⟩
    rfl

end

/-! ### A descriptor written by the layouts -/

section
variable (minor n p d0 lift life lo hi cal x : Nat)

/-- The region of a descriptor with a pin table and a notch tool table (11_record_layouts.md). -/
def region : List Byte :=
  [0x4F, 0x46, 0x44, 0x31, 1, byte minor, 2, 0] ++ le16 46
    ++ [1, 1] ++ le16 3 ++ [26, 0, 0, 0] ++ [2, 1] ++ le16 2 ++ [38, 0, 0, 0]
    ++ [byte n, 0] ++ le16 p ++ le16 d0 ++ le16 lift ++ le16 life ++ [0, 0]
    ++ le16 lo ++ le16 hi ++ le16 cal ++ [0, 0]

/-- The region with the check code bytes after it. -/
def written : List Byte := region minor n p d0 lift life lo hi cal ++ le16 x

/-- The written descriptor byte by byte. -/
theorem written_eq : written minor n p d0 lift life lo hi cal x =
    [0x4F, 0x46, 0x44, 0x31, 1, byte minor, 2, 0, 46, 0, 1, 1, 3, 0, 26, 0, 0, 0, 2, 1, 2, 0, 38, 0, 0, 0, byte n, 0,
     byte p, byte (p / 256), byte d0, byte (d0 / 256), byte lift, byte (lift / 256), byte life, byte (life / 256), 0, 0,
     byte lo, byte (lo / 256), byte hi, byte (hi / 256), byte cal, byte (cal / 256), 0, 0, byte x, byte (x / 256)] := by
  have h46 : le16 46 = [46, 0] := rfl
  have h3 : le16 3 = [3, 0] := rfl
  have h2 : le16 2 = [2, 0] := rfl
  rw [written, region, h46, h3, h2]
  simp only [le16, List.cons_append, List.nil_append]

/-- The written headers and the lengths (11_record_layouts.md). -/
theorem written_headers :
    let d := written minor n p d0 lift life lo hi cal x
    d.length = 48 ∧ d.take 4 = [0x4F, 0x46, 0x44, 0x31] ∧ u8 d 4 = 1 ∧ u8 d 6 = 2 ∧ u16 d 8 = 46
    ∧ u8 d 11 = 1 ∧ u8 d 19 = 1 ∧ idAt d 0 = 1 ∧ idAt d 1 = 2 ∧ wordsAt d 0 = 3 ∧ wordsAt d 1 = 2
    ∧ pointerAt d 0 = 26 ∧ pointerAt d 1 = 38 := by
  rw [written_eq]
  exact ⟨rfl, rfl, rfl, rfl, rfl, rfl, rfl, rfl, rfl, rfl, rfl, rfl, rfl⟩

/-- The fields of the written descriptor, each at its offset (11_record_layouts.md). -/
theorem written_fields (hminor : minor ≤ 255) (hn : n ≤ 64) (hp : p ≤ 2000) (hd0 : d0 ≤ 60000) (hlift : lift ≤ 1500)
    (hlife : life ≤ 65535) (hlo : lo ≤ 60000) (hhi : hi ≤ 60000) (hcal : cal ≤ 4095) (hx : x ≤ 65535) :
    let d := written minor n p d0 lift life lo hi cal x
    u8 d 5 = minor ∧ u8 d 26 = n ∧ u16 d 28 = p ∧ u16 d 30 = d0 ∧ u16 d 32 = lift ∧ u16 d 34 = life
    ∧ u16 d 38 = lo ∧ u16 d 40 = hi ∧ u16 d 42 = cal ∧ u16 d 46 = x := by
  have hbyte (v : Nat) (h : v ≤ 255) : (byte v).toNat = v := by rw [byte_toNat]; omega
  have hword (v : Nat) (h : v ≤ 65535) : (byte v).toNat + 256 * (byte (v / 256)).toNat = v := by
    rw [byte_toNat, byte_toNat]
    omega
  rw [written_eq]
  exact ⟨hbyte minor hminor, hbyte n (by omega), hword p (by omega), hword d0 (by omega), hword lift (by omega),
    hword life hlife, hword lo (by omega), hword hi (by omega), hword cal (by omega), hword x hx⟩

theorem region_length : (region minor n p d0 lift life lo hi cal).length = 46 := by
  simp [region, le16]

theorem written_region : (written minor n p d0 lift life lo hi cal x).take 46 = region minor n p d0 lift life lo hi cal := by
  rw [written, List.take_append_of_le_length (by rw [region_length]), List.take_of_length_le (by rw [region_length])]

theorem written_fetched : Fetched (written minor n p d0 lift life lo hi cal x) := by
  obtain ⟨hlength, hsignature, hrevision, hcount, htotal, -⟩ := written_headers minor n p d0 lift life lo hi cal x
  refine ⟨⟨⟨⟨⟨?_, hsignature⟩, hrevision⟩, ?_⟩, ?_⟩, ?_⟩ <;> omega

/-- The two headers are the pin table at 26 and the notch tool table at 38. -/
theorem written_tables (k o : Nat) : HasTable (written minor n p d0 lift life lo hi cal x) k o ↔
    (k = 1 ∧ o = 26) ∨ (k = 2 ∧ o = 38) := by
  obtain ⟨-, -, -, hcount, -, -, -, hpins, hnotch, -, -, hpinsAt, hnotchAt⟩ := written_headers minor n p d0 lift life lo hi cal x
  constructor
  · rintro ⟨i, hi, rfl, rfl⟩
    have htwo : i = 0 ∨ i = 1 := by omega
    rcases htwo with rfl | rfl
    · exact .inl ⟨hpins, hpinsAt⟩
    · exact .inr ⟨hnotch, hnotchAt⟩
  · rintro (⟨rfl, rfl⟩ | ⟨rfl, rfl⟩)
    · exact ⟨0, by omega, hpins, hpinsAt⟩
    · exact ⟨1, by omega, hnotch, hnotchAt⟩

theorem written_wellFormed : ¬ Malformed (written minor n p d0 lift life lo hi cal x) := by
  obtain ⟨-, -, -, hcount, htotal, hrevision, hrevision', hpins, hnotch, hwords, hwords', hpinsAt, hnotchAt⟩ :=
    written_headers minor n p d0 lift life lo hi cal x
  set d := written minor n p d0 lift life lo hi cal x
  rintro ⟨i, k, hi, hleast, hbad⟩
  have htwo : i = 0 ∨ i = 1 := by omega
  rcases htwo with rfl | rfl
  · have hrevision : u8 d (11 + 8 * 0) = 1 := hrevision
    have hk : k = 3 := by
      rcases hleast with ⟨-, hk⟩ | ⟨hid, -⟩ | ⟨hid, -⟩
      · exact hk
      · omega
      · omega
    rcases hbad with hbad | hbad | hbad | hbad | ⟨j, hj, -⟩
    · omega
    · omega
    · omega
    · omega
    · omega
  · have hrevision : u8 d (11 + 8 * 1) = 1 := hrevision'
    have hk : k = 2 := by
      rcases hleast with ⟨hid, -⟩ | ⟨-, hk⟩ | ⟨hid, -⟩
      · omega
      · exact hk
      · omega
    rcases hbad with hbad | hbad | hbad | hbad | ⟨j, hj, hid⟩
    · omega
    · omega
    · omega
    · omega
    · obtain rfl : j = 0 := by omega
      omega

/-- The written descriptor is judged by its check code alone, and read as the record it was written for. -/
theorem judge_written (hminor : minor ≤ 255) (hn : 16 ≤ n) (hn' : n ≤ 64) (hp : 500 ≤ p) (hp' : p ≤ 2000)
    (hrow : d0 + (n - 1) * p ≤ 60000) (hlift : 50 ≤ lift) (hlift' : lift ≤ 1500) (hlife : 1 ≤ life) (hlife' : life ≤ 65535)
    (hlo : lo ≤ hi) (hhi : hi ≤ 60000) (hcal : 1 ≤ cal) (hcal' : cal ≤ 4095) (hx : x ≤ 65535) :
    judgeDescriptor (written minor n p d0 lift life lo hi cal x) =
      if x = (crc (region minor n p d0 lift life lo hi cal)).toNat then
        .ok { minor := minor, n := n, p := p, d0 := d0, maxLift := lift, pinLife := life
              notch := some { reachMin := lo, reachMax := hi, maxCaliper := cal }, retired := [] }
      else .error .crc := by
  have hd0 : d0 ≤ 60000 := le_trans (Nat.le_add_right _ _) hrow
  have hfetched := written_fetched minor n p d0 lift life lo hi cal x
  have hwell := written_wellFormed minor n p d0 lift life lo hi cal x
  have htables := written_tables minor n p d0 lift life lo hi cal x
  obtain ⟨-, -, -, -, htotal, -⟩ := written_headers minor n p d0 lift life lo hi cal x
  obtain ⟨fminor, fn, fp, fd0, flift, flife, flo, fhi, fcal, fx⟩ :=
    written_fields minor n p d0 lift life lo hi cal x hminor hn' hp' hd0 hlift' hlife' (hlo.trans hhi) hhi hcal' hx
  have hregion := written_region minor n p d0 lift life lo hi cal x
  set d := written minor n p d0 lift life lo hi cal x with hd
  have hchecked : Checked d ↔ x = (crc (region minor n p d0 lift life lo hi cal)).toNat := by
    simp only [Checked, hfetched, true_and, htotal, hregion, fx]
    exact eq_comm
  split
  · next hcode =>
    have hnone (q : Nat) : ¬ HasTable d 3 q := by rw [htables]; omega
    refine (judge_ok_iff d _).mpr ⟨26, ⟨⟨hchecked.mpr hcode, hwell⟩, fun q hq => ?_, (htables 1 26).mpr (.inl ⟨rfl, rfl⟩), ?_,
      fun q hq => absurd hq (hnone q)⟩, ?_⟩
    · obtain rfl : q = 38 := by rw [htables] at hq; omega
      exact ⟨by rw [flo, fhi]; exact hlo, by rw [fhi]; exact hhi, by rw [fcal]; exact hcal, by rw [fcal]; exact hcal'⟩
    · have h28 : u16 d (26 + 2) = p := fp
      have h30 : u16 d (26 + 4) = d0 := fd0
      have h32 : u16 d (26 + 6) = lift := flift
      have h34 : u16 d (26 + 8) = life := flife
      rw [PinsOk, fn, h28, h30, h32, h34]
      exact ⟨hn, hn', hp, hp', hrow, hlift, hlift', hlife⟩
    · refine (dieRecord_eq_iff 26 _).mpr ⟨fminor.symm, fn.symm, fp.symm, fd0.symm, flift.symm, flife.symm, ?_, ?_⟩
      · refine (notch_eq_iff hwell 26 _).mpr ⟨fun h => absurd ((htables 2 38).mpr (.inr ⟨rfl, rfl⟩)) (h 38), fun q hq => ?_⟩
        obtain rfl : q = 38 := by rw [htables] at hq; omega
        rw [flo, fhi, fcal]
      · exact (retired_eq_iff hwell 26 (fun q hq => absurd hq (hnone q)) []).mpr
          ⟨List.Pairwise.nil, fun k => ⟨(fun h => by cases h), fun ⟨q, _, hq, _⟩ => absurd hq (hnone q)⟩⟩
  · next hcode => exact judge_of_fails d (c := .crc) ⟨hfetched, mt hchecked.mp hcode⟩

end

end Descriptor

open Descriptor in
/-- Settles O42: each failure and the record by the checks as conditions, and the written descriptor by the same. -/
theorem descriptorRead : Obligations.DescriptorRead := by
  unfold Obligations.DescriptorRead
  constructor
  · intro d count total heads id revision words pointer least signed revised counted sized fetched checked malformed formed
      table pinsOk notchOk retiredOk fails
    refine ⟨judge_error_iff d .noResponse, judge_error_iff d .signature, judge_error_iff d .revision,
      judge_error_iff d .headerCount, judge_error_iff d .length, judge_error_iff d .crc, judge_error_iff d .tableForm,
      judge_error_iff d .noPinTable, judge_error_iff d .pinValue, judge_error_iff d .notchValue,
      judge_error_iff d .retiredValue, fun r => ?_⟩
    rw [judge_ok_iff]
    constructor
    · rintro ⟨o, ⟨hformed, hnotch, htable, hpins, hretired⟩, hr⟩
      obtain ⟨hminor, hn, hp, hd0, hlift, hlife, hn', hret⟩ := (dieRecord_eq_iff o r).mp hr
      exact ⟨hformed, hnotch, o, htable, hpins, hretired, hminor, hn, hp, hd0, hlift, hlife,
        ((notch_eq_iff hformed.2 o r.notch).mp hn').1, ((notch_eq_iff hformed.2 o r.notch).mp hn').2,
        ((retired_eq_iff hformed.2 o hretired r.retired).mp hret).1, ((retired_eq_iff hformed.2 o hretired r.retired).mp hret).2⟩
    · rintro ⟨hformed, hnotch, o, htable, hpins, hretired, hminor, hn, hp, hd0, hlift, hlife, hnone, hsome, hsorted, hmem⟩
      refine ⟨o, ⟨hformed, hnotch, htable, hpins, hretired⟩, (dieRecord_eq_iff o r).mpr
        ⟨hminor, hn, hp, hd0, hlift, hlife, ?_, ?_⟩⟩
      · exact (notch_eq_iff hformed.2 o r.notch).mpr ⟨hnone, hsome⟩
      · exact (retired_eq_iff hformed.2 o hretired r.retired).mpr ⟨hsorted, hmem⟩
  · intro minor n p d0 lift life lo hi cal x hminor hn hn' hp hp' hrow hlift hlift' hlife hlife' hlo hhi hcal hcal' hx bytes
    have hd0 : d0 ≤ 60000 := le_trans (Nat.le_add_right _ _) hrow
    exact judge_written minor n p d0 lift life lo hi cal x hminor hn hn' hp hp' hrow hlift hlift' hlife hlife' hlo hhi hcal hcal' hx

end Sys2Proof.Machine
end
